-- ==== Sys2Proof/Word.lean ====
section
/-! DEFINITION. The plain number types of the CJ-412: bytes, 72-bit words, lanes, bus fields and saturating
counters (conventions of spec/00_scope.md; bus widths R43). -/

namespace Sys2Proof

/-- A byte of the settings image, of a maintenance transaction or of a reply. -/
abbrev Byte := BitVec 8

/-- A channel word: 72 opaque bits, lane k holding bits 8k to 8k+7 (spec/00_scope.md, "Words, lanes and bits"). -/
abbrev Word := BitVec 72

/-- A set of the nine lanes of a word; bit k stands for lane k. -/
abbrev Lanes := BitVec 9

/-- One of the four channels, 0 to 3. -/
abbrev Chan := Fin 4

/-- A bank number, in the width of the bus field (R43). -/
abbrev Bank := BitVec 3

/-- A row number, in the width of the bus field (R43). -/
abbrev Row := BitVec 16

/-- A column number, in the width of the bus field (R43). -/
abbrev Column := BitVec 10

/-- A counter of `w` bits (spec/00_scope.md, "Counters"). -/
abbrev Counter (w : Nat) := BitVec w

/-- A saturating counter grown by `n`: it stops at its maximum value. -/
def Counter.add {w : Nat} (c : Counter w) (n : Nat) : Counter w :=
  BitVec.ofNat w (min (c.toNat + n) (2 ^ w - 1))

/-- A saturating counter grown by one. -/
def Counter.inc {w : Nat} (c : Counter w) : Counter w := Counter.add c 1

/-- The word whose 72 bits are all one. -/
def poisonWord : Word := BitVec.allOnes 72

/-- All nine lanes. -/
def allLanes : Lanes := BitVec.allOnes 9

end Sys2Proof
end

