-- ==== Sys2Proof/Syntax.lean ====
section
/-! DEFINITION. The commands and events of the CJ-412: one constructor for each row of
spec/opcode_table.json, with the row's operands. The table gives a row no operands; each constructor
carries what the row's rule says arrives with the event (the channel, the bus fields, the bytes). -/

namespace Sys2Proof

/-- A command given to the controller, or an event that reaches it (spec/opcode_table.json). -/
inductive Instr where
  /-- Supplies come up (R144). -/
  | powerOnReset
  /-- CRST is asserted (R146). -/
  | warmRestart
  /-- The flash has delivered the 16 bytes of the header (R159). -/
  | headerCheck (header : List Byte)
  /-- The flash has delivered the bytes after the header, up to the image's total length (R160). The order
  is that in which the channels' runs, all started by this one event, reach the shared arbiter and
  allocator, which R112 and R126 leave open (notes/assumptions/5.md). -/
  | imageCheck (rest : List Byte) (order : List Chan)
  /-- The host's GET STATUS; its argument is ignored (R170). -/
  | getStatus (arg : Byte)
  /-- The host's GET RESULT (R171). -/
  | getResult (arg : Byte)
  /-- The host's GET ENTRY (R24, R170). -/
  | getEntry (arg : Byte)
  /-- The host's GET TALLY (R132, R170). -/
  | getTally (arg : Byte)
  /-- The host's GET RESERVE: channel in bits 0 and 1, bank in bits 4 to 6 (R169, R170). -/
  | getReserve (arg : Byte)
  /-- The host's GET COUNTERS (R172). -/
  | getCounters (arg : Byte)
  /-- The host's RETEST (R155). -/
  | retest (arg : Byte)
  /-- The host's ABORT (R153, R154). -/
  | abort (arg : Byte)
  /-- The host's ACKNOWLEDGE; its argument is ignored (R173). -/
  | acknowledge (arg : Byte)
  /-- A maintenance write whose code is not in Table 11.1 (R169). -/
  | unknownCommand (code : Byte) (arg : Byte)
  /-- A controller-side OPEN ROW (R48, R49, R58). -/
  | openRow (ch : Chan) (bank : Bank) (row : Row)
  /-- A controller-side READ (R51, R52, R59). -/
  | read (ch : Chan) (bank : Bank) (column : Column)
  /-- A controller-side WRITE (R57, R58). -/
  | write (ch : Chan) (bank : Bank) (column : Column) (word : Word) (lanes : Lanes)
  /-- A controller-side CLOSE BANK (R56, R58). -/
  | closeBank (ch : Chan) (bank : Bank)
  /-- A controller-side CLOSE ALL (R56, R58). -/
  | closeAll (ch : Chan)
  /-- A controller-side REFRESH (R56, R58). -/
  | refresh (ch : Chan)
  /-- A controller-side MODE SET (R56, R58). -/
  | modeSet (ch : Chan) (register : BitVec 4) (value : BitVec 16)
  /-- A read return arrives on a channel's device side (R42). -/
  | deviceReadReturn (ch : Chan) (word : Word)
  /-- A PREPARING channel's wait for its read return list has passed (R149). -/
  | prepareRun (ch : Chan)
  /-- The engine of a channel comes to its next operation, a WRITE (R85, R88). -/
  | engineWrite (ch : Chan)
  /-- The engine of a channel comes to its next operation, a READ (R85, R89). -/
  | engineRead (ch : Chan)
  /-- A channel's hold timer expires (R109). -/
  | holdTimerExpiry (ch : Chan)
  /-- A channel's refresh timer expires (R105). -/
  | refreshTimerExpiry (ch : Chan)
  /-- The allocator completes the record it has in service (R128). -/
  | serviceCompletion
  /-- The allocator completes the analysis it has in service (R136). -/
  | analysisCompletion
  /-- A whole millisecond has elapsed on a channel's run clock (R110). -/
  | runClockMillisecond (ch : Chan)
  deriving DecidableEq, Repr

end Sys2Proof
end

