-- ==== Sys2Proof/Config.lean ====
section
/-! DEFINITION. What the part fixes once for every board: the sizes of its stores, lists and queues, and the
codes it answers to. Each constant cites the rule that states it. No value of the manual is left open
here: the manual fixes every one (notes/assumptions/2.md says which values are the model's own). -/

namespace Sys2Proof.Config

/-- The index of the first pattern line: entries 56 to 63 are the pattern lines (R1). -/
def patternBase : Nat := 56

/-- The most items a read return list holds (R50). -/
def returnDepth : Nat := 32

/-- The most records a Fail Queue holds (R116). -/
def failQueueDepth : Nat := 16

/-- The most entries a Row Tally holds (R132). -/
def tallyDepth : Nat := 8

/-- The most operations a joined chain holds (R74). -/
def chainDepth : Nat := 8

/-- The number of records of the Program Store (R63). -/
def storeSize : Nat := 64

/-- The activity budget before an image sets it, and under an image that is not GOOD (R111). -/
def defaultBudget : Nat := 2

/-- The most column positions a span mask holds after the clamp (R8). -/
def spanDepth : Nat := 3

/-- The number of bytes of the image header (R159). -/
def headerSize : Nat := 16

/-- The first program record's place in the image: the header and four sections of 48 bytes (R161). -/
def programBase : Nat := 208

/-- The least total length of an image (R159). -/
def minImage : Nat := 64

/-- The greatest total length of an image (R159). -/
def maxImage : Nat := 4096

/-- The bytes the loader sends to start its read: 03h and three zero address bytes (R158). -/
def flashReadCommand : List Byte := [0x03#8, 0x00#8, 0x00#8, 0x00#8]

/-- The maintenance port's 7-bit I2C address (R168). -/
def i2cAddress : BitVec 7 := 0x35#7

/-- The fixed pass latency, in tenths of a microsecond (R174). -/
def passLatency : Nat := 1

/-- The tenths of a microsecond in a millisecond (the units of R103 and R108). -/
def tenthsPerMillisecond : Nat := 10000

end Sys2Proof.Config
end

