-- ==== Sys2Proof/Machine/State.lean ====
section
/-! DEFINITION. Everything the manual gives the CJ-412 to hold, as plain data, and the condition after power-on
reset. READY, ATTENTION, the flash select and a path's serving status are not held: each is "exactly while" another
piece of state has a value (R44, R145, R158, R173), and Machine/Flags.lean computes it. -/

namespace Sys2Proof.Machine

/-! ## Stops -/

/-- What stops the machine: nothing does. The manual gives every command an effect in every state, and an event that
cannot come about changes nothing (notes/assumptions/1.md). -/
inductive Fault where
  deriving DecidableEq, Repr

/-- Commands without a meaning. -/
inductive Refusal where
  /-- Raised by `exec` alone, for a command that has no meaning yet (no arm raises it). Safe: the model stops. -/
  | notModelled (mnemonic : String)
  deriving DecidableEq, Repr

/-! ## The Repair Table and Spare Store (Chapter 1) -/

/-- The column bits an entry ignores (R9). -/
inductive Scope where
  | exact | spanA | spanB
  deriving DecidableEq, Repr

/-- Whether a repair came into the run or was found in it (R4). -/
inductive Origin where
  | carried | found
  deriving DecidableEq, Repr

/-- The two kinds of repair, with the fields that only the kind carries (Table 1.1). -/
inductive RepairKind where
  /-- One word, or a group of words, answered from the spare line; the column is normalised. -/
  | substitute (column : Column) (scope : Scope)
  /-- A whole service row, moved to a reserve row of its bank. -/
  | remap (reserve : Nat)
  deriving DecidableEq, Repr

/-- The fields of a valid entry (Table 1.1). -/
structure Repair where
  channel : Chan
  origin : Origin
  bank : Bank
  row : Row
  kind : RepairKind
  deriving DecidableEq, Repr

/-- An entry of the Repair Table: its state with the fields present in that state (R2). -/
inductive Entry where
  | free
  | lent (pattern : Fin 8)
  | tentative (repair : Repair)
  | active (repair : Repair)
  deriving DecidableEq, Repr

/-- A spare line: eight spare words (R1). -/
abbrev Line := Vector Word 8

/-! ## Settings, program store and plan (Chapters 2, 4 and 10) -/

/-- Table 0.2: b, r, c and Q. -/
structure Geometry where
  b : Nat
  r : Nat
  c : Nat
  q : Nat
  deriving DecidableEq, Repr

/-- The two sweep orders (R28). -/
inductive SweepOrder where
  | columnFast | rowFast
  deriving DecidableEq, Repr

/-- One MODE SET of a channel's list (R161). -/
structure ModeSet where
  register : BitVec 4
  value : BitVec 16
  deriving DecidableEq, Repr

/-- A channel's settings in force, as the loader clamps them (R164). -/
structure Settings where
  geometry : Geometry
  sweepOrder : SweepOrder
  scope : Scope
  maskA : Column
  maskB : Column
  threshold : Nat
  refreshInterval : Nat
  retentionLimit : Nat
  programStart : Nat
  modeSets : List ModeSet
  deriving DecidableEq, Repr

/-- The direction of a sweep (R27). -/
inductive Direction where
  | up | down
  deriving DecidableEq, Repr

/-- The operations of a MARCH element (R65). -/
inductive Op where
  | readTrue | readInverse | writeTrue | writeInverse
  deriving DecidableEq, Repr

/-- The background kinds (R31). -/
inductive BackgroundKind where
  | solid | checker | rowStripe | columnStripe | laneWalk | stored | random
  deriving DecidableEq, Repr

/-- The fields of a MARCH record (Table 4.1); a slot holding NONE is `none`. -/
structure March where
  direction : Direction
  joined : Bool
  rotation : Nat
  slots : List (Option Op)
  background : BackgroundKind
  seed : BitVec 16
  pattern : Fin 8
  deriving DecidableEq, Repr

/-- A HOLD's refresh field (R67). -/
inductive HoldRefresh where
  | keep | stop
  deriving DecidableEq, Repr

/-- A record of the Program Store (R63, R64). -/
inductive Element where
  /-- The image supplied no record here. -/
  | empty
  /-- The record's kind, or a MARCH record's background kind, is outside the set. -/
  | outside
  | march (fields : March)
  | hold (duration : Nat) (refresh : HoldRefresh)
  | repeated (span : Nat) (count : Nat)
  | analyse
  | finish
  deriving DecidableEq, Repr

/-- The kinds of Table 4.1, as the plan's path lists them (R73). -/
inductive ElementKind where
  | march | hold | repeated | analyse | finish
  deriving DecidableEq, Repr

/-- A repeat span: the REPEAT's index, the first index of its span and its count (R73). -/
structure RepeatSpan where
  index : Nat
  first : Nat
  count : Nat
  deriving DecidableEq, Repr

/-- A channel's plan (Table 4.3). Each chain is the list of its elements' store indices. -/
structure Plan where
  path : List (Nat × ElementKind)
  phaseBoundary : Option Nat
  spans : List RepeatSpan
  chains : List (List Nat)
  joinsIgnored : Nat
  patterns : List (Fin 8)
  deriving DecidableEq, Repr

/-- The settings error codes (Table 11.3); the last six are the refusal reasons of Table 4.2. -/
inductive SettingsError where
  | none | image | geometry | programStart | badKind | emptyMarch | secondAnalyse | spanBeforeStart
  | spanContent | noEnd
  deriving DecidableEq, Repr

/-- What the loader keeps for a channel: whether it is enabled, its settings where its geometry is in force, its
settings error code, its plan and its carried records dropped (R163, R164, R166). -/
structure ChannelSetup where
  enabled : Bool
  settings : Option Settings
  code : SettingsError
  plan : Option Plan
  dropped : Counter 16
  deriving DecidableEq, Repr

/-! ## Channel path (Chapter 3) -/

/-- An open row: the row that was named and the row the devices opened (R47, R81). -/
structure OpenRow where
  target : Row
  physical : Row
  deriving DecidableEq, Repr

/-- An item of the read return list (Table 3.3). -/
inductive ReturnItem where
  | device
  | captured (word : Word)
  | poison
  deriving DecidableEq, Repr

/-- The five service anomaly counters, or their baselines (R62, R173). -/
structure Anomalies where
  heldOff : Counter 16
  intrusions : Counter 16
  maskedWrites : Counter 16
  unopened : Counter 16
  overruns : Counter 16
  deriving DecidableEq, Repr

/-- A channel path: bank tracker, read return list (oldest first) and anomaly counters (section 3.2). -/
structure Path where
  tracker : Vector (Option OpenRow) 8
  returns : List ReturnItem
  anomalies : Anomalies
  deriving DecidableEq, Repr

/-- A command on a channel's device side, in bus fields (R41, R43). -/
inductive DeviceCommand where
  | openRow (bank : Bank) (row : Row)
  | read (bank : Bank) (column : Column)
  | write (bank : Bank) (column : Column) (word : Word) (lanes : Lanes)
  | closeBank (bank : Bank)
  | closeAll
  | refresh
  | modeSet (register : BitVec 4) (value : BitVec 16)
  deriving DecidableEq, Repr

/-- What a channel's output pins carried in the step just taken, oldest first: the commands driven on the device side
and the read returns delivered on the controller side (R174). -/
structure Pins where
  toDevice : List DeviceCommand
  toController : List Word
  deriving DecidableEq, Repr

/-! ## March Engine and timers (Chapters 5 and 6) -/

/-- The engine's states (Table 5.1). -/
inductive EngineState where
  | idle | waitToken | sweep | stall | hold | drain | done
  deriving DecidableEq, Repr

/-- The two phases of a run (R79). -/
inductive Phase where
  | raw | verify
  deriving DecidableEq, Repr

/-- An address of a channel. -/
structure Address where
  bank : Bank
  row : Row
  column : Column
  deriving DecidableEq, Repr

/-- The sweep in progress: its phase, N, s and direction (R29). -/
structure Sweep where
  phase : Phase
  size : Nat
  start : Nat
  direction : Direction
  deriving DecidableEq, Repr

/-- The address generator: the sweep in progress and the position k (R29). The index and the address are computed
from these. -/
structure AddressGenerator where
  sweep : Option Sweep
  position : Nat
  deriving DecidableEq, Repr

/-- The engine's outstanding READ (Table 5.2). -/
structure OutstandingRead where
  address : Address
  op : Op
  element : Nat
  pass : Nat
  position : Nat
  captured : Option Word
  uncompared : Bool
  deriving DecidableEq, Repr

/-- The engine's four counters (R99). -/
structure EngineCounters where
  reads : Counter 48
  writes : Counter 48
  refreshes : Counter 48
  fallbacks : Counter 16
  deriving DecidableEq, Repr

/-- A March Engine: its state, its run context (Table 5.2), the refresh it owes (R93), whether it waits at step 3 of
R85 for an uncompared READ's return, and its counters. -/
structure Engine where
  state : EngineState
  position : Nat
  pass : Nat
  phase : Phase
  generator : AddressGenerator
  passSeed : Option (BitVec 16)
  banks : Vector (Option OpenRow) 8
  outstanding : Option OutstandingRead
  rawReadSweep : Bool
  currentOp : Nat
  refreshOwed : Bool
  awaitingReturn : Bool
  counters : EngineCounters
  deriving DecidableEq, Repr

/-- Whether a refresh timer runs (Table 6.1). -/
inductive TimerMode where
  | stopped | running | paused
  deriving DecidableEq, Repr

/-- A running hold timer: the duration in milliseconds, and the tenths of a microsecond elapsed (Table 6.1). -/
structure HoldRun where
  duration : Nat
  elapsed : Nat
  deriving DecidableEq, Repr

/-- The Channel Timers (Table 6.1), with elapsed times in tenths of a microsecond, and the hold clamp count (R109). -/
structure Timers where
  refreshMode : TimerMode
  refreshElapsed : Nat
  hold : Option HoldRun
  clockRunning : Bool
  clock : Counter 32
  holdClamps : Counter 16
  deriving DecidableEq, Repr

/-- The Activity Arbiter (Table 6.4). -/
structure Arbiter where
  budget : Nat
  holders : Vector Bool 4
  waiting : Vector Bool 4
  lastGranted : Chan
  deriving DecidableEq, Repr

/-! ## Fail Queue (Chapter 7) -/

/-- A fail record (Table 7.1). The lane set and the failing-bit count are computed from the failing-bit set. -/
structure FailRecord where
  channel : Chan
  phase : Phase
  bank : Bank
  row : Row
  column : Column
  element : Nat
  pass : Nat
  failing : Word
  repeats : BitVec 8
  deriving DecidableEq, Repr

/-- A first-fail capture (Table 7.3). -/
structure FirstFail where
  bank : Bank
  row : Row
  column : Column
  element : Nat
  pass : Nat
  position : Nat
  count : Nat
  deriving DecidableEq, Repr

/-- The queue's three counters (R124). -/
structure QueueCounters where
  appended : Counter 32
  merges : Counter 32
  discarded : Counter 32
  deriving DecidableEq, Repr

/-- A Fail Queue, oldest record first, with its counters and the run's first-fail captures (R116, R123, R124). -/
structure FailQueue where
  records : List FailRecord
  counters : QueueCounters
  firstRaw : Option FirstFail
  firstVerify : Option FirstFail
  deriving DecidableEq, Repr

/-! ## Repair Allocator (Chapter 8) -/

/-- A Row Tally entry (R132). -/
structure TallyEntry where
  bank : Bank
  row : Row
  count : BitVec 4
  mustRemap : Bool
  deriving DecidableEq, Repr

/-- The states of a reserve row (Table 8.3). -/
inductive ReserveState where
  | untested | good | bad | inUse
  deriving DecidableEq, Repr

/-- The allocation counters of a channel (Table 8.4, in its order). -/
structure AllocationCounters where
  rawRecords : Counter 32
  repeatsDiscarded : Counter 32
  unallocated : Counter 32
  tallyOverflows : Counter 32
  badReserve : Counter 32
  reserveLost : Counter 32
  verifyFails : Counter 32
  shortfalls : Counter 32
  deriving DecidableEq, Repr

/-- What the allocator holds for a channel (R125). The reserve lists are indexed by bank, then by reserve index. The
request, where present, carries the raw read sweep completed flag. -/
structure ChannelAllocation where
  tally : List TallyEntry
  reserve : List (List ReserveState)
  request : Option Bool
  exhausted : Bool
  counters : AllocationCounters
  deriving DecidableEq, Repr

/-- The classes of a fail record (R128). -/
inductive RecordClass where
  | verify | reserveRow | covered | newFail
  deriving DecidableEq, Repr

/-- The allocator's item in service (R125); a record is held with the class it was given at the take. -/
inductive AllocatorItem where
  | idle
  | record (fail : FailRecord) (kind : RecordClass)
  | analysis (channel : Chan) (sweepCompleted : Bool)
  deriving DecidableEq, Repr

/-- The shared Repair Allocator (R125). -/
structure Allocator where
  item : AllocatorItem
  lastServed : Chan
  deriving DecidableEq, Repr

/-! ## Channel Control and results (Chapters 9 and 11) -/

/-- The channel states (Table 9.1). -/
inductive ChannelState where
  | disabled | preparing | testing | analysing | verifying | service | failed
  deriving DecidableEq, Repr

/-- The outcomes (R144). -/
inductive RunOutcome where
  | none | untested | pass | repaired | failed | aborted
  deriving DecidableEq, Repr

/-- Channel Control (R144), with the mark that the channel is a candidate for resumption (R146). -/
structure Control where
  state : ChannelState
  outcome : RunOutcome
  runCount : Counter 16
  resumedCount : Counter 16
  candidate : Bool
  deriving DecidableEq, Repr

/-- What a channel's pattern set says of a pattern (R18). -/
inductive PatternUse where
  | notNamed | lent | unavailable
  deriving DecidableEq, Repr

/-- The copied part of a channel's result record (R171). -/
structure CopiedResult where
  substitutes : Nat
  remaps : Nat
  allocation : AllocationCounters
  queue : QueueCounters
  holdClamps : Counter 16
  engine : EngineCounters
  firstRaw : Option FirstFail
  firstVerify : Option FirstFail
  runTime : Counter 32
  deriving DecidableEq, Repr

/-- Everything that exists once for each channel. -/
structure Channel where
  control : Control
  setup : ChannelSetup
  path : Path
  engine : Engine
  timers : Timers
  queue : FailQueue
  allocation : ChannelAllocation
  patterns : Vector PatternUse 8
  result : CopiedResult
  baselines : Anomalies
  pins : Pins
  deriving DecidableEq, Repr

/-! ## Loader (Chapter 10) and the whole machine -/

/-- The loader's phases (R157). -/
inductive LoaderPhase where
  | reading | applying | finished
  deriving DecidableEq, Repr

/-- The image status (R157). -/
inductive ImageStatus where
  | none | absent | unsupported | damaged | good
  deriving DecidableEq, Repr

/-- The warm policy (Table 10.2). -/
inductive WarmPolicy where
  | keep | retest
  deriving DecidableEq, Repr

/-- The Start-up Loader (R157): its phase, the image status, the previous check value, the image as read so far, the
pattern table and the warm policy, which is absent while the kept copies are empty. -/
structure Loader where
  phase : LoaderPhase
  status : ImageStatus
  previousCheck : Option (BitVec 32)
  image : List Byte
  patternTable : List Line
  policy : Option WarmPolicy
  deriving DecidableEq, Repr

/-- The controller. `reply` is the maintenance port's reply buffer, `spiOut` the bytes sent to the flash in the step
just taken, and `pending` the queue of commands that wait, oldest first. -/
structure State where
  chan : Vector Channel 4
  table : Vector Entry 64
  spare : Vector Line 64
  store : Vector Element 64
  arbiter : Arbiter
  allocator : Allocator
  loader : Loader
  reply : List Byte
  spiOut : List Byte
  pending : List Instr
  deriving DecidableEq, Repr

/-! ## Power-on values -/

def Anomalies.zero : Anomalies := ⟨0, 0, 0, 0, 0⟩

def EngineCounters.zero : EngineCounters := ⟨0, 0, 0, 0⟩

def QueueCounters.zero : QueueCounters := ⟨0, 0, 0⟩

def AllocationCounters.zero : AllocationCounters := ⟨0, 0, 0, 0, 0, 0, 0, 0⟩

/-- An address generator that holds no sweep, with k = 0 (R29). DESIGN CHOICE, notes/assumptions/21.md: R29 gives k = 0 for the
two resets; that the position is 0 too after the end of a sweep, after an abort and at the start of a run is the model's choice.
Nothing reads the position while no sweep is held. -/
def AddressGenerator.empty : AddressGenerator := ⟨Option.none, 0⟩

/-- Every bank closed (R45, R81). -/
def allClosed : Vector (Option OpenRow) 8 := Vector.replicate 8 Option.none

/-- R144. -/
def Control.reset : Control := ⟨.disabled, .none, 0, 0, false⟩

/-- No settings, no plan, and no carried record dropped (R73, R157, R166). -/
def ChannelSetup.reset : ChannelSetup := ⟨false, Option.none, .none, Option.none, 0⟩

/-- R45. -/
def Path.reset : Path := ⟨allClosed, [], Anomalies.zero⟩

/-- R81. -/
def Engine.reset : Engine :=
  ⟨.idle, 0, 0, .raw, AddressGenerator.empty, Option.none, allClosed, Option.none, false, 0, false, false,
    EngineCounters.zero⟩

/-- R103. -/
def Timers.reset : Timers := ⟨.stopped, 0, Option.none, false, 0, 0⟩

/-- R116, R123, R124. -/
def FailQueue.reset : FailQueue := ⟨[], QueueCounters.zero, Option.none, Option.none⟩

/-- R125; with no geometry in force there is no reserve row yet. -/
def ChannelAllocation.reset : ChannelAllocation := ⟨[], [], Option.none, false, AllocationCounters.zero⟩

/-- R171: the copied part is zero and both captures are absent. -/
def CopiedResult.reset : CopiedResult :=
  ⟨0, 0, AllocationCounters.zero, QueueCounters.zero, 0, EngineCounters.zero, Option.none, Option.none, 0⟩

/-- A channel after power-on reset. -/
def Channel.reset : Channel :=
  { control := Control.reset, setup := ChannelSetup.reset, path := Path.reset, engine := Engine.reset,
    timers := Timers.reset, queue := FailQueue.reset, allocation := ChannelAllocation.reset,
    patterns := Vector.replicate 8 .notNamed, result := CopiedResult.reset, baselines := Anomalies.zero,
    pins := ⟨[], []⟩ }

/-- R111. -/
def Arbiter.reset : Arbiter := ⟨Config.defaultBudget, Vector.replicate 4 false, Vector.replicate 4 false, 3⟩

/-- R125. -/
def Allocator.reset : Allocator := ⟨.idle, 3⟩

/-- The loader begins READING; the previous check value is given by the reset that is taken (R157). -/
def Loader.reset (previousCheck : Option (BitVec 32)) : Loader :=
  ⟨.reading, .none, previousCheck, [], [], Option.none⟩

/-- A line of zero words. -/
def zeroLine : Line := Vector.replicate 8 0

/-- The machine right after power-on reset. DESIGN CHOICE, notes/assumptions/2.md: the Spare Store's contents, which the
manual leaves undefined and unobservable (R22), are zero. -/
def State.reset : State :=
  { chan := Vector.replicate 4 Channel.reset
    table := Vector.replicate 64 .free
    spare := Vector.replicate 64 zeroLine
    store := Vector.replicate 64 .empty
    arbiter := Arbiter.reset
    allocator := Allocator.reset
    loader := Loader.reset Option.none
    reply := []
    spiOut := Config.flashReadCommand
    pending := [] }

/-! ## Updates of one part of the machine -/

/-- Change one channel. -/
def State.onChan (s : State) (ch : Chan) (f : Channel → Channel) : State :=
  { s with chan := s.chan.set ch (f s.chan[ch]) }

/-- Change every channel, each by its number. -/
def State.mapChan (s : State) (f : Chan → Channel → Channel) : State :=
  { s with chan := Vector.ofFn fun ch => f ch s.chan[ch] }

/-- Put an entry in the table. -/
def State.setEntry (s : State) (i : Fin 64) (e : Entry) : State := { s with table := s.table.set i e }

/-- Change every entry of the table, each by its index. -/
def State.mapTable (s : State) (f : Fin 64 → Entry → Entry) : State :=
  { s with table := Vector.ofFn fun i => f i s.table[i] }

/-- Put a line in the Spare Store. -/
def State.setLine (s : State) (i : Fin 64) (l : Line) : State := { s with spare := s.spare.set i l }

def State.setArbiter (s : State) (a : Arbiter) : State := { s with arbiter := a }

def State.setAllocator (s : State) (a : Allocator) : State := { s with allocator := a }

def State.setLoader (s : State) (l : Loader) : State := { s with loader := l }

def State.setStore (s : State) (e : Vector Element 64) : State := { s with store := e }

def State.setReply (s : State) (r : List Byte) : State := { s with reply := r }

def State.setSpiOut (s : State) (b : List Byte) : State := { s with spiOut := b }

def State.setPending (s : State) (q : List Instr) : State := { s with pending := q }

def State.onEngine (s : State) (ch : Chan) (f : Engine → Engine) : State :=
  s.onChan ch fun c => { c with engine := f c.engine }

def State.onPath (s : State) (ch : Chan) (f : Path → Path) : State :=
  s.onChan ch fun c => { c with path := f c.path }

def State.onControl (s : State) (ch : Chan) (f : Control → Control) : State :=
  s.onChan ch fun c => { c with control := f c.control }

def State.onSetup (s : State) (ch : Chan) (f : ChannelSetup → ChannelSetup) : State :=
  s.onChan ch fun c => { c with setup := f c.setup }

def State.onTimers (s : State) (ch : Chan) (f : Timers → Timers) : State :=
  s.onChan ch fun c => { c with timers := f c.timers }

def State.onQueue (s : State) (ch : Chan) (f : FailQueue → FailQueue) : State :=
  s.onChan ch fun c => { c with queue := f c.queue }

def State.onAllocation (s : State) (ch : Chan) (f : ChannelAllocation → ChannelAllocation) : State :=
  s.onChan ch fun c => { c with allocation := f c.allocation }

def State.onPins (s : State) (ch : Chan) (f : Pins → Pins) : State :=
  s.onChan ch fun c => { c with pins := f c.pins }

end Sys2Proof.Machine
end

