-- ==== Sys2Proof/Machine/Operands.lean ====
section
/-! DEFINITION. How the fields of a command are read: bus fields decoded by a channel's geometry (R43), the arguments of
maintenance commands (R169), and the multi-byte numbers of the image and of the replies (R161, R170). -/

namespace Sys2Proof.Machine

/-! ## Geometry (Table 0.2) -/

/-- B, the banks per channel. -/
def Geometry.banks (g : Geometry) : Nat := 2 ^ g.b

/-- R, the rows per bank. -/
def Geometry.rows (g : Geometry) : Nat := 2 ^ g.r

/-- C, the words per row. -/
def Geometry.columns (g : Geometry) : Nat := 2 ^ g.c

/-- R − Q: the service rows are the rows below this number. -/
def Geometry.serviceRows (g : Geometry) : Nat := g.rows - g.q

/-- The full field widths, with no reserve row: what a channel without geometry decodes with (R43). -/
def fullGeometry : Geometry := ⟨3, 16, 10, 0⟩

/-- The channel's geometry where it is in force, and the full widths where it is not. -/
def Channel.geometry (c : Channel) : Geometry :=
  match c.setup.settings with
  | some st => st.geometry
  | none => fullGeometry

/-- The geometry a path serves with: an untested channel takes Q as 0 (R46, R163). -/
def Channel.servedGeometry (c : Channel) : Geometry :=
  if c.control.outcome = .untested then { c.geometry with q := 0 } else c.geometry

/-- The bank is the bank field mod B (R43). -/
def decodeBank (g : Geometry) (bank : Bank) : Bank := BitVec.ofNat 3 (bank.toNat % g.banks)

/-- The row is the row field mod R (R43). -/
def decodeRow (g : Geometry) (row : Row) : Row := BitVec.ofNat 16 (row.toNat % g.rows)

/-- The column is the column field mod C (R43). -/
def decodeColumn (g : Geometry) (column : Column) : Column := BitVec.ofNat 10 (column.toNat % g.columns)

/-- Replace one place of a bank tracker or bank record. -/
def setBank (v : Vector (Option OpenRow) 8) (bank : Bank) (x : Option OpenRow) : Vector (Option OpenRow) 8 :=
  v.set bank.toFin x

/-- One place of a bank tracker or bank record. -/
def bankAt (v : Vector (Option OpenRow) 8) (bank : Bank) : Option OpenRow := v[bank.toFin]

/-! ## Maintenance arguments (R169) -/

/-- A channel argument; absent when it is above 3. -/
def channelArgument (arg : Byte) : Option Chan :=
  if h : arg.toNat < 4 then some ⟨arg.toNat, h⟩ else none

/-- A GET ENTRY index; absent when it is above 63. -/
def entryArgument (arg : Byte) : Option (Fin 64) :=
  if h : arg.toNat < 64 then some ⟨arg.toNat, h⟩ else none

/-- A GET RESERVE argument's channel, bits 0 and 1. -/
def reserveChannel (arg : Byte) : Chan := Fin.ofNat 4 arg.toNat

/-- A GET RESERVE argument's bank, bits 4 to 6. -/
def reserveBank (arg : Byte) : Nat := arg.toNat / 16 % 8

/-! ## Multi-byte numbers, least significant byte first (R161, R170) -/

/-- Byte `i` of a run of bytes; a place beyond the end reads zero and is never asked for. -/
def byteAt (bytes : List Byte) (i : Nat) : Nat := (bytes.getD i 0).toNat

/-- The 2-byte number at `i`. -/
def number16 (bytes : List Byte) (i : Nat) : Nat := byteAt bytes i + 256 * byteAt bytes (i + 1)

/-- The 4-byte number at `i`. -/
def number32 (bytes : List Byte) (i : Nat) : Nat := number16 bytes i + 65536 * number16 bytes (i + 2)

/-- A number as `n` bytes. -/
def numberBytes : Nat → Nat → List Byte
  | 0, _ => []
  | n + 1, v => BitVec.ofNat 8 v :: numberBytes n (v / 256)

/-- A word as nine bytes, from lane 0 to lane 8. -/
def wordBytes (w : Word) : List Byte := numberBytes 9 w.toNat

/-- The word of the nine bytes at `i`, from lane 0 to lane 8. -/
def wordAt (bytes : List Byte) (i : Nat) : Word :=
  (List.range 9).foldl (fun w k => w ||| BitVec.ofNat 72 (byteAt bytes (i + k) * 2 ^ (8 * k))) 0

end Sys2Proof.Machine
end

