-- ==== Sys2Proof/Machine/Arithmetic.lean ====
section
/-! DEFINITION. Chapter 2: sweeps, backgrounds, the compare, the match of an access against an entry, and the rows opened
in the DRAM. -/

namespace Sys2Proof.Machine

/-! ## Sweeps (R25 to R29) -/

/-- R′, the rows a phase covers in each bank (R25). -/
def phaseRows (g : Geometry) : Phase → Nat
  | .raw => g.rows
  | .verify => g.serviceRows

/-- N, the sweep size (R25). -/
def sweepSize (g : Geometry) (p : Phase) : Nat := g.banks * phaseRows g p * g.columns

/-- s, the start index (R26). -/
def startIndex (rotation size : Nat) : Nat := rotation * size / 256

/-- The index visited at position k; the remainder for DOWN is the non-negative one (R27). -/
def sweepIndex (size start : Nat) (d : Direction) (k : Nat) : Nat :=
  match d with
  | .up => (start + k) % size
  | .down => (((start : Int) - (k : Int)) % (size : Int)).toNat

/-- The address of an index under a sweep order, with R′ rows to a bank (Table 2.1). -/
def indexAddress (g : Geometry) (order : SweepOrder) (rows i : Nat) : Address :=
  match order with
  | .columnFast =>
      { bank := BitVec.ofNat 3 (i / g.columns % g.banks)
        row := BitVec.ofNat 16 (i / (g.columns * g.banks))
        column := BitVec.ofNat 10 (i % g.columns) }
  | .rowFast =>
      { bank := BitVec.ofNat 3 (i / (rows * g.columns))
        row := BitVec.ofNat 16 (i % rows)
        column := BitVec.ofNat 10 (i / rows % g.columns) }

/-- The address of position k of a sweep (R27, R28). -/
def sweepAddress (g : Geometry) (order : SweepOrder) (w : Sweep) (k : Nat) : Address :=
  indexAddress g order (phaseRows g w.phase) (sweepIndex w.size w.start w.direction k)

/-- The sweep a generator is started with (R29). -/
def newSweep (g : Geometry) (p : Phase) (d : Direction) (rotation : Nat) : Sweep :=
  { phase := p, size := sweepSize g p, start := startIndex rotation (sweepSize g p), direction := d }

/-! ## Backgrounds (R30 to R33) -/

/-- The address key (R30). -/
def addressKey (g : Geometry) (a : Address) : Nat :=
  (a.bank.toNat * g.rows + a.row.toNat) * g.columns + a.column.toNat

/-- One step of the background generator (R32). -/
def lfsrStep (v : BitVec 16) : BitVec 16 := (v >>> 1) ^^^ (if v.getLsbD 0 then 0xB400#16 else 0#16)

/-- A value stepped `n` times. -/
def lfsrSteps : Nat → BitVec 16 → BitVec 16
  | 0, v => v
  | n + 1, v => lfsrSteps n (lfsrStep v)

/-- Zero is taken as 0001h (R33). -/
def nonzero16 (v : BitVec 16) : BitVec 16 := if v = 0#16 then 1#16 else v

/-- The pass seed: the seed stepped once for each pass (R33, steps 1 and 2). -/
def passSeedOf (seed : BitVec 16) (pass : Nat) : BitVec 16 := lfsrSteps pass (nonzero16 seed)

/-- The RANDOM word of a pass seed and an address key (R33, steps 3 to 5). -/
def randomWord (passSeed : BitVec 16) (key : Nat) : Word :=
  let v0 := nonzero16 (passSeed ^^^ BitVec.ofNat 16 key)
  let v1 := lfsrStep v0
  let v2 := lfsrStep v1
  let v3 := lfsrStep v2
  let v4 := lfsrStep v3
  let v5 := lfsrStep v4
  BitVec.ofNat 72 (v1.toNat * 2 ^ 56 + v2.toNat * 2 ^ 40 + v3.toNat * 2 ^ 24 + v4.toNat * 2 ^ 8 + v5.toNat % 256)

/-- All zero when the number is even, all one when it is odd (Table 2.3). -/
def parityWord (n : Nat) : Word := if n % 2 = 0 then 0 else BitVec.allOnes 72

/-- The word with one lane all one and the other eight all zero. -/
def laneWord (lane : Nat) : Word := BitVec.ofNat 72 (255 * 2 ^ (8 * lane))

/-- The true word at an address (Table 2.3). `words` is the lent pattern line a STORED element reads. -/
def trueWord (g : Geometry) (kind : BackgroundKind) (words : Line) (passSeed : BitVec 16) (a : Address) : Word :=
  match kind with
  | .solid => 0
  | .checker => parityWord (a.row.toNat + a.column.toNat)
  | .rowStripe => parityWord a.row.toNat
  | .columnStripe => parityWord a.column.toNat
  | .laneWalk => laneWord (a.column.toNat % 9)
  | .stored => words[Fin.ofNat 8 a.column.toNat]
  | .random => randomWord passSeed (addressKey g a)

/-- Whether an operation is a READ (R65). -/
def Op.isRead : Op → Bool
  | .readTrue | .readInverse => true
  | .writeTrue | .writeInverse => false

/-- Whether an operation takes the inverse word (R65). -/
def Op.isInverse : Op → Bool
  | .readInverse | .writeInverse => true
  | .readTrue | .writeTrue => false

/-- The expected word of an operation, from the true word (R31). -/
def Op.expected (o : Op) (w : Word) : Word := if o.isInverse then ~~~w else w

/-! ## Compare (R34) -/

/-- The failing-bit set: the positions at which the words differ. -/
def failingBits (got expected : Word) : Word := got ^^^ expected

/-- Lane k of a word holds a position of the set. -/
def laneFails (failing : Word) (lane : Nat) : Bool := (List.range 8).any fun j => failing.getLsbD (8 * lane + j)

/-- The lane set of a failing-bit set: position n lies in lane n div 8. -/
def laneSet (failing : Word) : Lanes :=
  (List.range 9).foldl (fun lanes k => if laneFails failing k then lanes ||| BitVec.ofNat 9 (2 ^ k) else lanes) 0

/-- The failing-bit count. -/
def failingCount (failing : Word) : Nat := (List.range 72).countP failing.getLsbD

/-! ## Matching accesses to entries (R35 to R38) -/

/-- The ignored set of a scope, for a channel (R9, R35). -/
def Channel.ignored (c : Channel) : Scope → Column
  | .exact => 0
  | .spanA => match c.setup.settings with
    | some st => st.maskA
    | none => 0
  | .spanB => match c.setup.settings with
    | some st => st.maskB
    | none => 0

/-- The compare mask: the positions below c that are not ignored (R35). -/
def compareMask (g : Geometry) (ignored : Column) : Column := BitVec.ofNat 10 (g.columns - 1) &&& ~~~ignored

/-- A SUBSTITUTE's column matches an accessed column (R36). -/
def columnMatches (g : Geometry) (ignored entry accessed : Column) : Bool :=
  (accessed ^^^ entry) &&& compareMask g ignored == 0

/-- The ignored positions, ascending. -/
def ignoredPositions (ignored : Column) : List Nat := (List.range 10).filter ignored.getLsbD

/-- The column's bits at the given positions, the first becoming bit 0. -/
def gatherBits (column : Column) : List Nat → Nat
  | [] => 0
  | n :: rest => (column.getLsbD n).toNat + 2 * gatherBits column rest

/-- The spare offset of an accessed column (R37). -/
def spareOffset (ignored accessed : Column) : Fin 8 := Fin.ofNat 8 (gatherBits accessed (ignoredPositions ignored))

/-- The normalised column (R38). -/
def normalisedColumn (ignored column : Column) : Column := column &&& ~~~ignored

/-! ## Rows opened in the DRAM (R39) -/

/-- The remap physical row of a reserve index. -/
def remapRow (g : Geometry) (reserve : Nat) : Row := BitVec.ofNat 16 (g.serviceRows + reserve)

/-- The reserve index of a row at or above R − Q (R49, R57, R130). -/
def reserveIndex (g : Geometry) (row : Row) : Nat := row.toNat - g.serviceRows

end Sys2Proof.Machine
end

