-- ==== Sys2Proof/Machine/Flags.lean ====
section
/-! DEFINITION. The pins and status bits that are "exactly while" some state has a value (R44, R145, R158, R173), and how
the service anomaly counters grow (R62). -/

namespace Sys2Proof.Machine

/-- A channel path serves while its channel is in SERVICE, and is held off in any other state (R44). -/
def Channel.serving (c : Channel) : Bool := c.control.state == .service

/-- READY is high exactly while the channel is in SERVICE (R145). -/
def State.ready (s : State) (ch : Chan) : Bool := s.chan[ch].serving

/-- The states in which a run is in progress: an ABORT is taken in these, and a pattern line is lent only while a
channel naming its pattern is in one of them (R21, R153). -/
def ChannelState.running : ChannelState → Bool
  | .preparing | .testing | .analysing | .verifying => true
  | .disabled | .service | .failed => false

/-- The loader keeps the flash selected for the whole read (R158). -/
def State.flashSelected (s : State) : Bool := s.loader.phase == .reading

/-- An anomaly counter of the channel exceeds its baseline (R173). -/
def Channel.anomalyCause (c : Channel) : Bool :=
  c.baselines.heldOff < c.path.anomalies.heldOff || c.baselines.intrusions < c.path.anomalies.intrusions
    || c.baselines.maskedWrites < c.path.anomalies.maskedWrites
    || c.baselines.unopened < c.path.anomalies.unopened || c.baselines.overruns < c.path.anomalies.overruns

/-- The channel's outcome is UNTESTED, FAILED or ABORTED (R173). -/
def Channel.outcomeCause (c : Channel) : Bool :=
  match c.control.outcome with
  | .untested | .failed | .aborted => true
  | .none | .pass | .repaired => false

/-- The image status is not GOOD (R173). -/
def State.imageCause (s : State) : Bool := s.loader.status != .good

/-- ATTENTION is asserted while any cause holds, once the loader is FINISHED (R173). -/
def State.attention (s : State) : Bool :=
  s.loader.phase == .finished
    && (s.imageCause || (List.finRange 4).any fun ch => s.chan[ch].outcomeCause || s.chan[ch].anomalyCause)

/-- A status byte of flags, the first being bit 0. -/
def flagByte : List Bool → Nat
  | [] => 0
  | b :: rest => b.toNat + 2 * flagByte rest

/-- GET STATUS's outcome causes (Table 11.2). -/
def State.outcomeCauses (s : State) : Nat :=
  flagByte (s.imageCause :: (List.finRange 4).map fun ch => s.chan[ch].outcomeCause)

/-- GET STATUS's anomaly causes (Table 11.2). -/
def State.anomalyCauses (s : State) : Nat :=
  flagByte ((List.finRange 4).map fun ch => s.chan[ch].anomalyCause)

/-! ## Counting an anomaly (Table 3.7) -/

def Anomalies.countHeldOff (a : Anomalies) : Anomalies := { a with heldOff := Counter.inc a.heldOff }

def Anomalies.countIntrusion (a : Anomalies) : Anomalies := { a with intrusions := Counter.inc a.intrusions }

def Anomalies.countMaskedWrite (a : Anomalies) : Anomalies := { a with maskedWrites := Counter.inc a.maskedWrites }

def Anomalies.countUnopened (a : Anomalies) : Anomalies := { a with unopened := Counter.inc a.unopened }

def Anomalies.countOverrun (a : Anomalies) : Anomalies := { a with overruns := Counter.inc a.overruns }

end Sys2Proof.Machine
end

