-- ==== Sys2Proof/Machine/Ops.lean ====
section
/-! DEFINITION. The named operations every block shares: driving the pins, the Repair Table's lookups, creation, release
and bulk transitions (Chapter 1), lending and return of pattern lines (section 1.7), the reserve row states
(section 8.5) and the arbiter's bookkeeping (section 6.6). -/

namespace Sys2Proof.Machine

/-! ## Pins -/

/-- Drive a command on a channel's device side. -/
def State.drive (s : State) (ch : Chan) (cmd : DeviceCommand) : State :=
  s.onPins ch fun p => { p with toDevice := p.toDevice ++ [cmd] }

/-- Deliver a read return on a channel's controller side. -/
def State.deliver (s : State) (ch : Chan) (w : Word) : State :=
  s.onPins ch fun p => { p with toController := p.toController ++ [w] }

/-- Every bus idle: the condition in which each step begins. -/
def State.quiet (s : State) : State := (s.mapChan fun _ c => { c with pins := ⟨[], []⟩ }).setSpiOut []

/-! ## Lookups (R10, R11) -/

/-- The two groups of Table 1.4 that make lookups: a path in SERVICE, and the VERIFY engine with the allocator. -/
inductive Accessor where
  | service | proving
  deriving DecidableEq, Repr

/-- The repair of a valid entry. -/
def Entry.repair? : Entry → Option Repair
  | .tentative r => some r
  | .active r => some r
  | .free => none
  | .lent _ => none

/-- The repair of an entry that takes part in an accessor's lookups (Table 1.4). -/
def Entry.inForce (a : Accessor) (e : Entry) : Option Repair :=
  match a, e with
  | .service, .active r => some r
  | .proving, .active r => some r
  | .proving, .tentative r => some r
  | .service, .tentative _ => none
  | .service, .free => none
  | .service, .lent _ => none
  | .proving, .free => none
  | .proving, .lent _ => none

/-- A repair of this channel, bank and row. -/
def Repair.ofRow (r : Repair) (ch : Chan) (bank : Bank) (row : Row) : Bool :=
  r.channel == ch && r.bank == bank && r.row == row

/-- The reserve index of a REMAP that matches a row lookup (R36). -/
def Repair.rowMatch (r : Repair) (ch : Chan) (bank : Bank) (row : Row) : Option Nat :=
  match r.kind with
  | .remap reserve => if r.ofRow ch bank row then some reserve else none
  | .substitute _ _ => none

/-- The spare word of a SUBSTITUTE that matches a word lookup (R36, R37). -/
def Repair.wordMatch (r : Repair) (c : Channel) (ch : Chan) (bank : Bank) (row : Row) (column : Column) :
    Option (Fin 8) :=
  match r.kind with
  | .substitute base scope =>
      if r.ofRow ch bank row && columnMatches c.geometry (c.ignored scope) base column then
        some (spareOffset (c.ignored scope) column)
      else none
  | .remap _ => none

/-- A row lookup: the reserve index of the REMAP entry with the lowest index that takes part and matches. -/
def State.rowLookup (s : State) (a : Accessor) (ch : Chan) (bank : Bank) (row : Row) : Option Nat :=
  (List.finRange 64).findSome? fun i => (s.table[i].inForce a).bind fun r => r.rowMatch ch bank row

/-- A word lookup: the SUBSTITUTE entry with the lowest index that takes part and matches, and the spare word that the
accessed column selects. -/
def State.wordLookup (s : State) (a : Accessor) (ch : Chan) (bank : Bank) (row : Row) (column : Column) :
    Option (Fin 64 × Fin 8) :=
  (List.finRange 64).findSome? fun i =>
    ((s.table[i].inForce a).bind fun r => r.wordMatch s.chan[ch] ch bank row column).map fun o => (i, o)

/-- The physical row a row lookup gives for a row (R40). -/
def State.physicalRow (s : State) (a : Accessor) (ch : Chan) (bank : Bank) (row : Row) : Row :=
  match s.rowLookup a ch bank row with
  | some reserve => remapRow s.chan[ch].geometry reserve
  | none => row

/-! ## Spare words (R13) -/

/-- A spare word. -/
def State.spareWord (s : State) (at_ : Fin 64 × Fin 8) : Word := s.spare[at_.1][at_.2]

/-- The bits of a set of lanes. -/
def laneMask (lanes : Lanes) : Word :=
  (List.range 9).foldl (fun m k => if lanes.getLsbD k then m ||| laneWord k else m) 0

/-- The enabled lanes of the new word, the others of the old. -/
def mergeLanes (old new : Word) (lanes : Lanes) : Word := (new &&& laneMask lanes) ||| (old &&& ~~~laneMask lanes)

/-- Write the enabled lanes of a word into a spare word. -/
def State.writeSpare (s : State) (at_ : Fin 64 × Fin 8) (w : Word) (lanes : Lanes) : State :=
  s.setLine at_.1 (s.spare[at_.1].set at_.2 (mergeLanes (s.spareWord at_) w lanes))

/-! ## Creation and release (R5, R6) -/

/-- The FREE entry with the lowest index. -/
def State.freeIndex (s : State) : Option (Fin 64) := (List.finRange 64).find? fun i => s.table[i] == .free

/-- A repair with its column normalised under its scope, as the table stores it (R5, R38). -/
def Repair.normalised (r : Repair) (c : Channel) : Repair :=
  match r.kind with
  | .substitute column scope => { r with kind := .substitute (normalisedColumn (c.ignored scope) column) scope }
  | .remap _ => r

/-- Ask the table for a new entry: the lowest FREE entry becomes TENTATIVE, and a SUBSTITUTE's line is zeroed; `none` is
the report of a full table. -/
def State.create (s : State) (r : Repair) : Option State :=
  match s.freeIndex with
  | none => none
  | some i =>
    let s := s.setEntry i (.tentative (r.normalised s.chan[r.channel]))
    match r.kind with
    | .substitute _ _ => some (s.setLine i zeroLine)
    | .remap _ => some s

/-- The entries whose valid repair meets a test become FREE; their lines keep their words. -/
def State.releaseWhere (s : State) (p : Repair → Bool) : State :=
  s.mapTable fun _ e =>
    match e.repair? with
    | some r => if p r then .free else e
    | none => e

/-- A SUBSTITUTE repair. -/
def Repair.isSubstitute (r : Repair) : Bool :=
  match r.kind with
  | .substitute _ _ => true
  | .remap _ => false

/-- A REMAP repair. -/
def Repair.isRemap (r : Repair) : Bool := !r.isSubstitute

/-- The number of entries of the table with a valid repair that meets a test. -/
def State.countRepairs (s : State) (p : Repair → Bool) : Nat :=
  (List.finRange 64).countP fun i =>
    match s.table[i].repair? with
    | some r => p r
    | none => false

/-- The number of a channel's valid SUBSTITUTE entries (R24). -/
def State.substituteCount (s : State) (ch : Chan) : Nat := s.countRepairs fun r => r.channel == ch && r.isSubstitute

/-- The number of a channel's valid REMAP entries (R24). -/
def State.remapCount (s : State) (ch : Chan) : Nat := s.countRepairs fun r => r.channel == ch && r.isRemap

/-! ## Bulk transitions (R14 to R16) -/

/-- Reopen, for one entry: a valid entry of the channel becomes TENTATIVE and CARRIED. -/
def Entry.reopen (ch : Chan) (e : Entry) : Entry :=
  match e.repair? with
  | some r => if r.channel = ch then .tentative { r with origin := .carried } else e
  | none => e

/-- Reopen (R14). -/
def State.reopen (s : State) (ch : Chan) : State := s.mapTable fun _ e => e.reopen ch

/-- Commit, for one entry: a TENTATIVE entry of the channel becomes ACTIVE. -/
def Entry.commit (ch : Chan) (e : Entry) : Entry :=
  match e with
  | .tentative r => if r.channel = ch then .active r else e
  | .free => e
  | .lent _ => e
  | .active _ => e

/-- Commit (R15). -/
def State.commit (s : State) (ch : Chan) : State := s.mapTable fun _ e => e.commit ch

/-- The state of a reserve row; absent beyond the lists (R134). -/
def reserveAt (lists : List (List ReserveState)) (bank : Bank) (reserve : Nat) : Option ReserveState :=
  (lists[bank.toNat]?).bind fun l => l[reserve]?

/-- Give a reserve row a state. -/
def setReserve (lists : List (List ReserveState)) (bank : Bank) (reserve : Nat) (st : ReserveState) :
    List (List ReserveState) :=
  lists.set bank.toNat ((lists.getD bank.toNat []).set reserve st)

/-- Set a reserve row of a channel. -/
def State.setReserveRow (s : State) (ch : Chan) (bank : Bank) (reserve : Nat) (st : ReserveState) : State :=
  s.onAllocation ch fun a => { a with reserve := setReserve a.reserve bank reserve st }

/-- Change every reserve row of a channel, in every bank. -/
def State.mapReserve (s : State) (ch : Chan) (f : ReserveState → ReserveState) : State :=
  s.onAllocation ch fun a => { a with reserve := a.reserve.map fun l => l.map f }

/-- The repair is a FOUND one of the channel: abort release frees it (R16). -/
def Repair.foundBy (ch : Chan) (r : Repair) : Bool := r.channel == ch && r.origin == .found

/-- The reserve row of a REMAP that abort release frees goes from IN_USE to GOOD (R16, R135). -/
def State.returnReserve (ch : Chan) (s : State) (e : Entry) : State :=
  match e.repair? with
  | some r =>
    match r.kind with
    | .remap reserve =>
      if r.foundBy ch && reserveAt s.chan[ch].allocation.reserve r.bank reserve == some .inUse then
        s.setReserveRow ch r.bank reserve .good
      else s
    | .substitute _ _ => s
  | none => s

/-- Abort release (R16). -/
def State.abortRelease (s : State) (ch : Chan) : State :=
  (s.table.toList.foldl (State.returnReserve ch) s).releaseWhere (Repair.foundBy ch)

/-! ## Pattern lines (R18 to R21) -/

/-- The entry that owns pattern line `p`. -/
def patternEntry (p : Fin 8) : Fin 64 := ⟨Config.patternBase + p.val, by unfold Config.patternBase; omega⟩

/-- The channel's program names the pattern (R18). -/
def Channel.names (c : Channel) (p : Fin 8) : Bool :=
  match c.setup.plan with
  | some plan => plan.patterns.contains p
  | none => false

/-- Set what a channel's pattern set says of a pattern. -/
def State.setPattern (s : State) (ch : Chan) (p : Fin 8) (u : PatternUse) : State :=
  s.onChan ch fun c => { c with patterns := c.patterns.set p u }

/-- Lending of one pattern to a channel (Table of R19). -/
def State.lendPattern (ch : Chan) (s : State) (p : Fin 8) : State :=
  if s.chan[ch].names p then
    match s.table[patternEntry p] with
    | .free =>
      match s.loader.patternTable[p.val]? with
      | some line => ((s.setEntry (patternEntry p) (.lent p)).setLine (patternEntry p) line).setPattern ch p .lent
      | none => s.setPattern ch p .unavailable
    | .lent _ => s.setPattern ch p .lent
    | .tentative _ => s.setPattern ch p .unavailable
    | .active _ => s.setPattern ch p .unavailable
  else s.setPattern ch p .notNamed

/-- Lending (R19). -/
def State.lend (s : State) (ch : Chan) : State := (List.finRange 8).foldl (State.lendPattern ch) s

/-- A channel other than the one that leaves names the pattern and is still in a testing state (R21). -/
def State.borrowed (s : State) (leaving : Chan) (p : Fin 8) : Bool :=
  (List.finRange 4).any fun ch => ch != leaving && s.chan[ch].control.state.running && s.chan[ch].names p

/-- The return of the lent lines that a channel's leaving allows (R21). -/
def State.returnLines (s : State) (leaving : Chan) : State :=
  s.mapTable fun _ e =>
    match e with
    | .lent p => if s.borrowed leaving p then e else .free
    | .free => e
    | .tentative _ => e
    | .active _ => e

/-! ## Cyclic orders and the arbiter's sets (R111 to R114, R126) -/

/-- The first of the `n` channels after `last`, in cyclic order, that meets a test. -/
def nextInCycle (last : Chan) (n : Nat) (p : Chan → Bool) : Option Chan :=
  ((List.range n).map fun k => Fin.ofNat 4 (last.val + 1 + k)).find? p

/-- The number of channels that hold a token. -/
def Arbiter.held (a : Arbiter) : Nat := (List.finRange 4).countP fun ch => a.holders[ch]

/-- A grant: the channel holds a token, waits no more, and is the last granted. -/
def Arbiter.grant (a : Arbiter) (ch : Chan) : Arbiter :=
  { a with holders := a.holders.set ch true, waiting := a.waiting.set ch false, lastGranted := ch }

/-- The channel waits for a token. -/
def Arbiter.wait (a : Arbiter) (ch : Chan) : Arbiter := { a with waiting := a.waiting.set ch true }

/-- The channel's request is withdrawn (R114). -/
def Arbiter.withdraw (a : Arbiter) (ch : Chan) : Arbiter := { a with waiting := a.waiting.set ch false }

/-- The channel holds no token. -/
def Arbiter.drop (a : Arbiter) (ch : Chan) : Arbiter := { a with holders := a.holders.set ch false }

/-- The waiting channel that a release gives its token to (R113). -/
def Arbiter.chosen (a : Arbiter) : Option Chan := nextInCycle a.lastGranted 3 fun ch => a.waiting[ch]

end Sys2Proof.Machine
end

