-- ==== Sys2Proof/Machine/Control.lean ====
section
/-! DEFINITION. Channel Control's shared actions (Chapter 9): the outcome of a run and what follows it, the copy of the
results, and the clearing of the run counters. -/

namespace Sys2Proof.Machine

/-- The Result Block copies the run's results, as they stand (R171). -/
def State.copyResult (s : State) (ch : Chan) : State :=
  s.onChan ch fun c => { c with result :=
    { substitutes := s.substituteCount ch
      remaps := s.remapCount ch
      allocation := c.allocation.counters
      queue := c.queue.counters
      holdClamps := c.timers.holdClamps
      engine := c.engine.counters
      firstRaw := c.queue.firstRaw
      firstVerify := c.queue.firstVerify
      runTime := c.timers.clock } }

/-- The run clock stops, keeping its value (R110). -/
def State.stopClock (s : State) (ch : Chan) : State := s.onTimers ch fun t => { t with clockRunning := false }

/-- The run's counts condemn it: a verify fail, an unallocated fail or a remap shortfall was counted, or the exhausted
flag is set (R151). -/
def Channel.condemned (c : Channel) : Bool :=
  c.allocation.counters.verifyFails != 0 || c.allocation.counters.unallocated != 0
    || c.allocation.counters.shortfalls != 0 || c.allocation.exhausted

/-- The outcome of a run whose engine is done (R151). -/
def State.outcomeOf (s : State) (ch : Chan) : RunOutcome :=
  if s.chan[ch].condemned then .failed
  else if s.substituteCount ch + s.remapCount ch = 0 then .pass
  else .repaired

/-- The channel enters SERVICE: its tracker is set closed, its path serves and READY rises (R47, R145, R152). -/
def State.enterService (s : State) (ch : Chan) (outcome : RunOutcome) : State :=
  (s.onPath ch fun p => { p with tracker := allClosed }).onControl ch fun k =>
    { k with state := .service, outcome := outcome }

/-- The done report of the engine, taken in ANALYSING (R151, R152). -/
def State.endRun (s : State) (ch : Chan) : State :=
  let s := s.stopClock ch
  let outcome := s.outcomeOf ch
  if outcome = .failed then
    ((s.returnLines ch).copyResult ch).onControl ch fun k => { k with state := .failed, outcome := .failed }
  else ((((s.commit ch).returnLines ch).copyResult ch).enterService ch outcome)

/-- Channel Control clears the run counters and captures, sets the run clock to zero and starts it, and adds one to the
run count (step 6 of R149). -/
def State.clearRun (s : State) (ch : Chan) : State :=
  s.onChan ch fun c => { c with
    engine := { c.engine with counters := EngineCounters.zero }
    timers := { c.timers with holdClamps := 0, clock := 0, clockRunning := true }
    queue := { c.queue with counters := QueueCounters.zero, firstRaw := none, firstVerify := none }
    allocation := { c.allocation with counters := AllocationCounters.zero, exhausted := false }
    control := { c.control with runCount := Counter.inc c.control.runCount } }

/-- An engine report moves the channel from one of the states it is taken in; in any other it is ignored (R150). -/
def State.report (s : State) (ch : Chan) (takenIn : List ChannelState) (after : ChannelState) : State :=
  if takenIn.contains s.chan[ch].control.state then s.onControl ch fun k => { k with state := after } else s

/-- The reserve row reset: every reserve row that is not IN_USE becomes UNTESTED (R135). -/
def ReserveState.restart : ReserveState → ReserveState
  | .inUse => .inUse
  | .untested | .good | .bad => .untested

end Sys2Proof.Machine
end

