-- ==== Sys2Proof/Machine/Programs.lean ====
section
/-! DEFINITION. Chapter 4: the operations of an element, the validation of a channel's program and the plan built from
an accepted one. -/

namespace Sys2Proof.Machine

/-- A record of the store; a place beyond it holds no element. -/
def elementAt (store : Vector Element 64) (i : Nat) : Element := if h : i < 64 then store[i] else .empty

/-- The operations of a MARCH element: its slots up to the first NONE (R65). -/
def March.ops (m : March) : List Op := (m.slots.takeWhile Option.isSome).filterMap id

/-- The operations of the element at an index; only a MARCH element has any. -/
def opsAt (store : Vector Element 64) (i : Nat) : List Op :=
  match elementAt store i with
  | .march m => m.ops
  | .empty | .outside | .hold _ _ | .repeated _ _ | .analyse | .finish => []

/-- The kind of a record that has one. -/
def Element.kind : Element → Option ElementKind
  | .march _ => some .march
  | .hold _ _ => some .hold
  | .repeated _ _ => some .repeated
  | .analyse => some .analyse
  | .finish => some .finish
  | .empty => none
  | .outside => none

/-- A REPEAT or an ANALYSE, which no span may hold (R71). -/
def Element.barsSpan : Element → Bool
  | .repeated _ _ | .analyse => true
  | .empty | .outside | .march _ | .hold _ _ | .finish => false

/-! ## Validation (R71) -/

/-- The refusal that applies at the record of index `j`, if one does (Table 4.2). -/
def refusalAt (store : Vector Element 64) (start j : Nat) (analyseRead : Bool) : Option SettingsError :=
  match elementAt store j with
  | .empty => some .badKind
  | .outside => some .badKind
  | .march m => if m.ops.isEmpty then some .emptyMarch else none
  | .analyse => if analyseRead then some .secondAnalyse else none
  | .repeated n k =>
      if n = 0 ∨ k = 0 then none
      else if j < start + n then some .spanBeforeStart
      else if (List.range n).any fun d => (elementAt store (j - n + d)).barsSpan then some .spanContent
      else none
  | .hold _ _ => none
  | .finish => none

/-- Read the records upward from `j`, at most `fuel` of them: the index of the END, or the refusal. -/
def validateFrom (store : Vector Element 64) (start : Nat) : Nat → Nat → Bool → Except SettingsError Nat
  | 0, _, _ => .error .noEnd
  | fuel + 1, j, analyseRead =>
    match refusalAt store start j analyseRead with
    | some reason => .error reason
    | none =>
      match elementAt store j with
      | .finish => .ok j
      | .analyse => validateFrom store start fuel (j + 1) true
      | .empty | .outside | .march _ | .hold _ _ | .repeated _ _ => validateFrom store start fuel (j + 1) analyseRead

/-- Validation of the program that starts at `start`. -/
def validate (store : Vector Element 64) (start : Nat) : Except SettingsError Nat :=
  validateFrom store start (Config.storeSize - start) start false

/-! ## The plan (R73 to R75) -/

/-- The repeat span of a REPEAT whose span and count are both at least 1 (R77, and the "repeat spans" of Table 4.3). DEDUCED:
a REPEAT with n at least 1 and k = 0 has none, unsafe (notes/assumptions/23.md). R77 by itself asks n of at least 1 only, but by
R68 the span of such a REPEAT "holds no record", and Table 4.3 lists spans with n and k at least 1. -/
def spanAt (store : Vector Element 64) (j : Nat) : Option RepeatSpan :=
  match elementAt store j with
  | .repeated n k => if n = 0 ∨ k = 0 then none else some { index := j, first := j - n, count := k }
  | .empty | .outside | .march _ | .hold _ _ | .analyse | .finish => none

/-- The REPEAT whose span holds an element, if any. -/
def spanOf (spans : List RepeatSpan) (e : Nat) : Option Nat :=
  (spans.find? fun sp => sp.first ≤ e && e < sp.index).map (·.index)

/-- Two MARCH elements have the same background: kind, and seed under RANDOM, and pattern number under STORED. -/
def March.sameBackground (m n : March) : Bool :=
  m.background == n.background && (m.background != .random || m.seed == n.seed)
    && (m.background != .stored || m.pattern == n.pattern)

/-- The operations of a chain, each with the store index of its element, in order (R76). -/
def chainOps (store : Vector Element 64) (chain : List Nat) : List (Nat × Op) :=
  chain.flatMap fun e => (opsAt store e).map fun o => (e, o)

/-- The join from the last element of a chain to the MARCH element at `j` is honoured (R74; condition 1 is that `j` is
a MARCH element on the path). The repeat spans of condition 4 are the plan's: a REPEAT of count 0 has none
(notes/assumptions/23.md). -/
def joinHonoured (store : Vector Element 64) (spans : List RepeatSpan) (chain : List Nat) (j : Nat) (m : March) : Bool :=
  match chain.head?.map (elementAt store) with
  | some (.march first) =>
      first.sameBackground m && spanOf spans (j - 1) == spanOf spans j
        && (chainOps store chain).length + m.ops.length ≤ Config.chainDepth
  | some _ => false
  | none => false

/-- The chains of the rest of a path and the number of joins ignored in it. `open_` is the chain whose last element
asks to be joined to the next one (R75). -/
def formChains (store : Vector Element 64) (spans : List RepeatSpan) : List Nat → Option (List Nat) → List (List Nat) × Nat
  | [], none => ([], 0)
  | [], some chain => ([chain], 1)
  | j :: rest, open_ =>
    match elementAt store j with
    | .march m =>
      let joins := match open_ with
        | some chain => joinHonoured store spans chain j m
        | none => false
      let chain := if joins then open_.getD [] ++ [j] else [j]
      let after := if m.joined then formChains store spans rest (some chain)
        else
          let ended := formChains store spans rest none
          (chain :: ended.1, ended.2)
      match open_ with
      | some ended => if joins then after else (ended :: after.1, after.2 + 1)
      | none => after
    | .empty | .outside | .hold _ _ | .repeated _ _ | .analyse | .finish =>
      let after := formChains store spans rest none
      match open_ with
      | some ended => (ended :: after.1, after.2 + 1)
      | none => after

/-- The store indices from the program start to the END. -/
def pathIndices (start finish : Nat) : List Nat := List.range' start (finish + 1 - start)

/-- The pattern numbers named by STORED MARCH elements on a path (R18). -/
def patternsNamed (store : Vector Element 64) (path : List Nat) : List (Fin 8) :=
  (List.finRange 8).filter fun p => path.any fun j =>
    match elementAt store j with
    | .march m => m.background == .stored && m.pattern == p
    | .empty | .outside | .hold _ _ | .repeated _ _ | .analyse | .finish => false

/-- The plan of an accepted program (R73). -/
def buildPlan (store : Vector Element 64) (start finish : Nat) : Plan :=
  let indices := pathIndices start finish
  let spans := indices.filterMap (spanAt store)
  let chains := formChains store spans indices none
  { path := indices.filterMap fun j => (elementAt store j).kind.map fun k => (j, k)
    phaseBoundary := indices.find? fun j => (elementAt store j).kind == some .analyse
    spans := spans
    chains := chains.1
    joinsIgnored := chains.2
    patterns := patternsNamed store indices }

/-- The chain of a plan whose first element is at an index. -/
def Plan.chainAt (plan : Plan) (i : Nat) : Option (List Nat) := plan.chains.find? fun chain => chain.head? == some i

end Sys2Proof.Machine
end

