-- ==== Sys2Proof/Machine/Engine.lean ====
section
/-! DEFINITION. The March Engine's shared operations (Chapters 5 to 7): refresh service, lazy row opening, token requests
and releases, the taking of an element, the drain, the compare and the hand-off to the Fail Queue, the start of a run
and the engine's abort. -/

namespace Sys2Proof.Machine

/-! ## What the engine is at -/

/-- The chain in progress: the plan's chain that begins at the element position. -/
def Channel.currentChain (c : Channel) : Option (List Nat) :=
  match c.setup.plan with
  | some plan => plan.chainAt c.engine.position
  | none => none

/-- The operations of the chain in progress, each with its element's index. -/
def State.currentOps (s : State) (ch : Chan) : List (Nat × Op) :=
  match s.chan[ch].currentChain with
  | some chain => chainOps s.store chain
  | none => []

/-- The operation the engine is at, with its element's index. -/
def State.currentOp (s : State) (ch : Chan) : Option (Nat × Op) := (s.currentOps ch)[s.chan[ch].engine.currentOp]?

/-- The address the generator supplies; it supplies none while it holds no sweep (R29). -/
def Channel.address (c : Channel) : Option Address :=
  match c.engine.generator.sweep, c.setup.settings with
  | some w, some st => some (sweepAddress st.geometry st.sweepOrder w c.engine.generator.position)
  | _, none => none
  | none, some _ => none

/-- The background a MARCH element runs with: STORED falls back to SOLID unless its line is lent to the channel
(R18, R31). -/
def Channel.background (c : Channel) (m : March) : BackgroundKind :=
  if m.background = .stored ∧ c.patterns[m.pattern] ≠ .lent then .solid else m.background

/-- The expected word of an operation of the chain in progress at an address (R31, R88, R91). -/
def State.expectedWord (s : State) (ch : Chan) (o : Op) (a : Address) : Word :=
  let c := s.chan[ch]
  match elementAt s.store c.engine.position with
  | .march m =>
      o.expected (trueWord c.geometry (c.background m) s.spare[patternEntry m.pattern]
        (c.engine.passSeed.getD (passSeedOf m.seed c.engine.pass)) a)
  | .empty | .outside | .hold _ _ | .repeated _ _ | .analyse | .finish => 0

/-- A READ of the engine's is outstanding and will be compared. -/
def Engine.reading (e : Engine) : Bool :=
  match e.outstanding with
  | some o => !o.uncompared
  | none => false

/-! ## Commands of the engine -/

/-- The engine issues CLOSE ALL and sets every bank of its record closed (R86). -/
def State.engineCloseAll (s : State) (ch : Chan) : State :=
  (s.drive ch .closeAll).onEngine ch fun e => { e with banks := allClosed }

/-- The engine issues REFRESH, counts it and owes none. -/
def State.issueRefresh (s : State) (ch : Chan) : State :=
  (s.drive ch .refresh).onEngine ch fun e =>
    { e with refreshOwed := false, counters := { e.counters with refreshes := Counter.inc e.counters.refreshes } }

/-- Servicing an owed refresh: CLOSE ALL and then REFRESH (R94). -/
def State.serviceRefresh (s : State) (ch : Chan) : State := (s.engineCloseAll ch).issueRefresh ch

/-- The engine services a refresh if it owes one. -/
def State.serviceOwed (s : State) (ch : Chan) : State :=
  if s.chan[ch].engine.refreshOwed then s.serviceRefresh ch else s

/-- The physical row the engine opens for a target row (R87). -/
def State.enginePhysicalRow (s : State) (ch : Chan) (a : Address) : Row :=
  match s.chan[ch].engine.phase with
  | .raw => a.row
  | .verify => s.physicalRow .proving ch a.bank a.row

/-- OPEN ROW, with its place in the bank record (case 3 of R86). -/
def State.engineOpen (s : State) (ch : Chan) (a : Address) : State :=
  let physical := s.enginePhysicalRow ch a
  (s.drive ch (.openRow a.bank physical)).onEngine ch fun e =>
    { e with banks := setBank e.banks a.bank (some { target := a.row, physical := physical }) }

/-- The target row of an address is made open (R86). -/
def State.openTarget (s : State) (ch : Chan) (a : Address) : State :=
  match bankAt s.chan[ch].engine.banks a.bank with
  | none => s.engineOpen ch a
  | some o =>
    if o.target = a.row then s
    else ((s.drive ch (.closeBank a.bank)).onEngine ch fun e =>
      { e with banks := setBank e.banks a.bank none }).engineOpen ch a

/-- In the VERIFY phase, the spare word that an access of the engine finds (R88, R89). -/
def State.engineSpare (s : State) (ch : Chan) (a : Address) : Option (Fin 64 × Fin 8) :=
  match s.chan[ch].engine.phase with
  | .raw => none
  | .verify => s.wordLookup .proving ch a.bank a.row a.column

/-- Step 3 of R85 for a WRITE (R88). -/
def State.issueWrite (s : State) (ch : Chan) (o : Op) (a : Address) : State :=
  let word := s.expectedWord ch o a
  let found := s.engineSpare ch a
  let s := (s.drive ch (.write a.bank a.column word allLanes)).onEngine ch fun e =>
    { e with counters := { e.counters with writes := Counter.inc e.counters.writes } }
  match found with
  | some place => s.writeSpare place word allLanes
  | none => s

/-- Step 3 of R85 for a READ that may be issued (R89). -/
def State.issueRead (s : State) (ch : Chan) (element : Nat) (o : Op) (a : Address) : State :=
  let captured := (s.engineSpare ch a).map s.spareWord
  (s.drive ch (.read a.bank a.column)).onEngine ch fun e =>
    { e with
      awaitingReturn := false
      outstanding := some { address := a, op := o, element := element, pass := e.pass,
                            position := e.generator.position, captured := captured, uncompared := false }
      counters := { e.counters with reads := Counter.inc e.counters.reads } }

/-! ## Tokens (R84, R112 to R114) -/

/-- A granted engine starts its address generator with the chain's first element and enters SWEEP (R84). -/
def State.startSweep (s : State) (ch : Chan) : State :=
  let c := s.chan[ch]
  match elementAt s.store c.engine.position with
  | .march m =>
      s.onEngine ch fun e =>
        { e with state := .sweep,
                 generator := { sweep := some (newSweep c.geometry e.phase m.direction m.rotation), position := 0 } }
  | .empty | .outside | .hold _ _ | .repeated _ _ | .analyse | .finish => s

/-- A request is granted at once while fewer than K tokens are held, and waits otherwise (R112). -/
def State.requestToken (s : State) (ch : Chan) : State :=
  if s.arbiter.held < s.arbiter.budget then (s.setArbiter (s.arbiter.grant ch)).startSweep ch
  else s.setArbiter (s.arbiter.wait ch)

/-- A release frees the token, or grants it to the next waiting channel (R113). -/
def State.releaseToken (s : State) (ch : Chan) : State :=
  if s.arbiter.holders[ch] then
    let a := s.arbiter.drop ch
    match a.chosen with
    | none => s.setArbiter a
    | some next => (s.setArbiter (a.grant next)).startSweep next
  else s

/-! ## Taking an element (R83) -/

/-- The pattern fallbacks that beginning a chain counts (R84). -/
def Channel.fallbacksOf (c : Channel) (m : March) (chain : List Nat) : Nat :=
  if m.background = .stored ∧ c.patterns[m.pattern] = .unavailable ∧ c.engine.pass = 0 then chain.length else 0

/-- The engine begins the chain at its position: the pass seed, the fallback count, and the token request from
WAIT_TOKEN, where it services a refresh it still owes (R84, R94; notes/assumptions/6.md). A chain that is not RANDOM holds no
pass seed (DESIGN CHOICE, notes/assumptions/22.md). -/
def State.beginChain (s : State) (ch : Chan) (m : March) (chain : List Nat) : State :=
  let fallbacks := s.chan[ch].fallbacksOf m chain
  let s := s.onEngine ch fun e =>
    { e with
      state := .waitToken
      currentOp := 0
      passSeed := if m.background = .random then some (passSeedOf m.seed e.pass) else none
      counters := { e.counters with fallbacks := Counter.add e.counters.fallbacks fallbacks } }
  (s.serviceOwed ch).requestToken ch

/-- The duration of a hold and whether it was cut to the retention limit (R109). -/
def Channel.holdDuration (c : Channel) (duration : Nat) : Nat × Bool :=
  match c.setup.settings with
  | some st => (min duration st.retentionLimit, st.retentionLimit < duration)
  | none => (duration, false)

/-- The hold timer is started, and a cut is counted (R109). -/
def State.startHold (s : State) (ch : Chan) (duration : Nat) : State :=
  let held := s.chan[ch].holdDuration duration
  s.onTimers ch fun t =>
    { t with hold := some { duration := held.1, elapsed := 0 }
             holdClamps := if held.2 then Counter.inc t.holdClamps else t.holdClamps }

/-- The refresh timer is paused, keeping its elapsed time (R106). -/
def Timers.pause (t : Timers) : Timers := if t.refreshMode = .running then { t with refreshMode := .paused } else t

/-- The refresh timer resumes from the elapsed time it kept (R106). -/
def Timers.resume (t : Timers) : Timers := if t.refreshMode = .paused then { t with refreshMode := .running } else t

/-- The refresh timer is stopped, with elapsed time zero (R104). -/
def Timers.stopRefresh (t : Timers) : Timers := { t with refreshMode := .stopped, refreshElapsed := 0 }

/-- The engine enters HOLD (R95). Under KEEP an owed refresh is serviced at once (R94); under STOP it is serviced with one
REFRESH after the hold's CLOSE ALL, and the refresh timer is paused (R106). -/
def State.enterHold (s : State) (ch : Chan) (duration : Nat) (refresh : HoldRefresh) : State :=
  let s := (s.engineCloseAll ch).onEngine ch fun e => { e with state := .hold }
  match refresh with
  | .keep => (s.serviceOwed ch).startHold ch duration
  | .stop =>
    let s := if s.chan[ch].engine.refreshOwed then s.issueRefresh ch else s
    (s.onTimers ch Timers.pause).startHold ch duration

/-! ## The waits at ANALYSE and END (R96 to R98) -/

/-- The allocator has a record of the channel in service. -/
def AllocatorItem.serves (i : AllocatorItem) (ch : Chan) : Bool :=
  match i with
  | .record f _ => f.channel == ch
  | .analysis _ _ => false
  | .idle => false

/-- The allocator has the channel's analysis in service. -/
def AllocatorItem.analyses (i : AllocatorItem) (ch : Chan) : Bool :=
  match i with
  | .analysis c _ => c == ch
  | .record _ _ => false
  | .idle => false

/-- The drain condition: the queue is empty and no record of the channel is in service (R96). -/
def State.drained (s : State) (ch : Chan) : Bool :=
  s.chan[ch].queue.records.isEmpty && !s.allocator.item.serves ch

/-- The engine places an analysis request, with the raw read sweep completed flag (R97). -/
def State.placeRequest (s : State) (ch : Chan) : State :=
  let flag := s.chan[ch].engine.rawReadSweep
  s.onAllocation ch fun a => { a with request := some flag }

/-- The final CLOSE ALL, DONE with the refresh timer stopped, and the done report (R98, R104, R150). -/
def State.finishRun (s : State) (ch : Chan) : State :=
  let s := ((s.engineCloseAll ch).onEngine ch fun e => { e with state := .done }).onTimers ch Timers.stopRefresh
  if s.chan[ch].control.state = .analysing then s.endRun ch else s

/-- The engine tests the drain condition in DRAIN; it does so no more once its request is placed (R96 to R98). -/
def State.drainTest (s : State) (ch : Chan) : State :=
  let c := s.chan[ch]
  if c.engine.state = .drain ∧ s.drained ch ∧ c.allocation.request = none ∧ ¬ s.allocator.item.analyses ch then
    match elementAt s.store c.engine.position with
    | .analyse => s.placeRequest ch
    | .finish =>
      match c.engine.phase with
      | .raw => s.placeRequest ch
      | .verify => s.finishRun ch
    | .empty | .outside | .march _ | .hold _ _ | .repeated _ _ => s
  else s

/-- The engine enters DRAIN, after its report to Channel Control (R96, R150). -/
def State.enterDrain (s : State) (ch : Chan) (takenIn : List ChannelState) : State :=
  let s := (s.engineCloseAll ch).onEngine ch fun e => { e with state := .drain }
  ((s.report ch takenIn .analysing).serviceOwed ch).drainTest ch

/-- The engine takes the element at its position (Table 5.3), passing through REPEATs by the repeat rule (R78). A program
passes at most one record after another, so `fuel` above the store's size never runs out. -/
def State.takeElement (ch : Chan) : Nat → State → State
  | 0, s => s
  | fuel + 1, s =>
    let e := s.chan[ch].engine
    match elementAt s.store e.position with
    | .march m =>
      match s.chan[ch].currentChain with
      | some chain => s.beginChain ch m chain
      | none => s
    | .hold duration refresh => s.enterHold ch duration refresh
    | .repeated n k =>
      if n = 0 ∨ k = 0 then takeElement ch fuel (s.onEngine ch fun e => { e with position := e.position + 1 })
      else if e.pass < k then
        takeElement ch fuel (s.onEngine ch fun e => { e with pass := e.pass + 1, position := e.position - n })
      else takeElement ch fuel (s.onEngine ch fun e => { e with pass := 0, position := e.position + 1 })
    | .analyse => s.enterDrain ch [.testing]
    | .finish => s.enterDrain ch [.testing, .verifying]
    | .empty => s
    | .outside => s

/-- The engine takes the element at a position. -/
def State.takeElementAt (s : State) (ch : Chan) (i : Nat) : State :=
  State.takeElement ch (Config.storeSize + 1) (s.onEngine ch fun e => { e with position := i })

/-! ## At each address (R85, R92) -/

/-- The end of a chain's sweep: the flag, the token's release, and the element after the chain (R92). DESIGN CHOICE,
notes/assumptions/22.md: the pass seed is dropped with the sweep. -/
def State.endChain (s : State) (ch : Chan) : State :=
  let ops := s.currentOps ch
  let after := match s.chan[ch].currentChain with
    | some chain => chain.getLastD s.chan[ch].engine.position + 1
    | none => s.chan[ch].engine.position + 1
  let s := s.onEngine ch fun e =>
    { e with
      generator := AddressGenerator.empty
      passSeed := none
      currentOp := 0
      rawReadSweep := e.rawReadSweep || (e.phase == .raw && ops.any fun o => o.2.isRead) }
  (s.releaseToken ch).takeElementAt ch after

/-- The last operation at an address is done: the generator advances, or reports the end of the sweep (R29, R92). -/
def State.advance (s : State) (ch : Chan) : State :=
  match s.chan[ch].engine.generator.sweep with
  | some w =>
    if s.chan[ch].engine.generator.position + 1 < w.size then
      s.onEngine ch fun e =>
        { e with currentOp := 0, generator := { e.generator with position := e.generator.position + 1 } }
    else s.endChain ch
  | none => s

/-- Step 4 of R85: the operation is done. -/
def State.operationDone (s : State) (ch : Chan) : State :=
  if s.chan[ch].engine.currentOp + 1 < (s.currentOps ch).length then
    s.onEngine ch fun e => { e with currentOp := e.currentOp + 1 }
  else s.advance ch

/-- The engine comes to its WRITE operation at the current address (R85, R88). -/
def State.doWrite (s : State) (ch : Chan) (o : Op) (a : Address) : State :=
  ((((s.serviceOwed ch).openTarget ch a).issueWrite ch o a).operationDone ch)

/-- The engine comes to its READ operation at the current address: after steps 1 and 2 of R85 it waits for an uncompared
READ's return, or stalls on a full queue, or issues the READ (R85, R89). -/
def State.doRead (s : State) (ch : Chan) (element : Nat) (o : Op) (a : Address) : State :=
  let s := (s.serviceOwed ch).openTarget ch a
  if s.chan[ch].engine.outstanding.isSome then s.onEngine ch fun e => { e with awaitingReturn := true }
  else if Config.failQueueDepth ≤ s.chan[ch].queue.records.length then s.onEngine ch fun e => { e with state := .stall }
  else s.issueRead ch element o a

/-! ## The compare and the Fail Queue (R91, R115 to R123) -/

/-- The failure has the address and phase of a record (R117). -/
def FailRecord.sameAddress (r f : FailRecord) : Bool :=
  r.phase == f.phase && r.bank == f.bank && r.row == f.row && r.column == f.column

/-- A merge of a failure into a record (R118). -/
def FailRecord.merge (r f : FailRecord) : FailRecord :=
  { r with failing := r.failing ||| f.failing, repeats := Counter.inc r.repeats }

/-- The first-fail capture of a failing READ (R123). -/
def FirstFail.of (f : FailRecord) (position : Nat) : FirstFail :=
  { bank := f.bank, row := f.row, column := f.column, element := f.element, pass := f.pass, position := position,
    count := failingCount f.failing }

/-- An absent capture of the failure's phase is filled (R123). -/
def FailQueue.capture (q : FailQueue) (f : FailRecord) (position : Nat) : FailQueue :=
  match f.phase with
  | .raw => { q with firstRaw := some (q.firstRaw.getD (FirstFail.of f position)) }
  | .verify => { q with firstVerify := some (q.firstVerify.getD (FirstFail.of f position)) }

/-- The queue merges a failure into its youngest record, or appends it (R117 to R119, R124). -/
def FailQueue.place (q : FailQueue) (f : FailRecord) : FailQueue :=
  match q.records.getLast? with
  | some youngest =>
    if youngest.sameAddress f then
      { q with records := q.records.dropLast ++ [youngest.merge f]
               counters := { q.counters with merges := Counter.inc q.counters.merges } }
    else
      { q with records := q.records ++ [f]
               counters := { q.counters with appended := Counter.inc q.counters.appended } }
  | none =>
      { q with records := q.records ++ [f]
               counters := { q.counters with appended := Counter.inc q.counters.appended } }

/-- The failure an outstanding READ hands over (R91). -/
def failureOf (ch : Chan) (phase : Phase) (o : OutstandingRead) (failing : Word) : FailRecord :=
  { channel := ch, phase := phase, bank := o.address.bank, row := o.address.row, column := o.address.column,
    element := o.element, pass := o.pass, failing := failing, repeats := 1 }

/-- The engine hands a failure to the queue (R91). -/
def State.handOff (s : State) (ch : Chan) (o : OutstandingRead) (failing : Word) : State :=
  let f := failureOf ch s.chan[ch].engine.phase o failing
  s.onQueue ch fun q => (q.place f).capture f o.position

/-- The failing-bit set of an outstanding READ whose return carries a word: a captured spare word takes the device word's
place (R34, R91). -/
def State.compareReturn (s : State) (ch : Chan) (o : OutstandingRead) (word : Word) : Word :=
  failingBits (o.captured.getD word) (s.expectedWord ch o.op o.address)

/-- A read return for the engine: an uncompared READ's is discarded (R101), any other is compared (R91). -/
def State.engineReturn (s : State) (ch : Chan) (o : OutstandingRead) (word : Word) : State :=
  if o.uncompared then s.onEngine ch fun e => { e with outstanding := none, awaitingReturn := false }
  else
    let failing := s.compareReturn ch o word
    let s := if failing = 0 then s else s.handOff ch o failing
    (s.onEngine ch fun e => { e with outstanding := none }).operationDone ch

/-! ## The start of a run (R82, R149) -/

/-- Channel Control issues CLOSE ALL and the channel's MODE SET list (steps 1 and 2 of R149). -/
def State.prepareDevices (s : State) (ch : Chan) : State :=
  let modeSets := match s.chan[ch].setup.settings with
    | some st => st.modeSets
    | none => []
  modeSets.foldl (fun s m => s.drive ch (.modeSet m.register m.value)) (s.drive ch .closeAll)

/-- The engine and the refresh timer are started and the channel enters TESTING (step 7 of R149, R82, R104). DESIGN CHOICE,
notes/assumptions/22.md: no pass seed is held, and the current operation stands as it was until a chain begins. -/
def State.startEngine (s : State) (ch : Chan) : State :=
  let start := match s.chan[ch].setup.settings with
    | some st => st.programStart
    | none => 0
  let s := s.onChan ch fun c => { c with
    engine := { c.engine with pass := 0, phase := .raw, rawReadSweep := false, banks := allClosed,
                              generator := AddressGenerator.empty, passSeed := none,
                              refreshOwed := false, awaitingReturn := false }
    timers := { c.timers with refreshMode := .running, refreshElapsed := 0 }
    control := { c.control with state := .testing } }
  s.takeElementAt ch start

/-- The steps of PREPARING after its wait, as one action (R149). -/
def State.prepare (s : State) (ch : Chan) : State :=
  let s := (s.prepareDevices ch).reopen ch
  let s := (s.onAllocation ch fun a => { a with tally := [] }).mapReserve ch ReserveState.restart
  ((s.lend ch).clearRun ch).startEngine ch

/-! ## Abort (R100, R101) -/

/-- An outstanding READ is marked uncompared. -/
def Engine.markUncompared (e : Engine) : Engine :=
  { e with outstanding := e.outstanding.map fun o => { o with uncompared := true } }

/-- What the abort does by the engine's state (Table 5.7). -/
def State.abortByState (s : State) (ch : Chan) : State :=
  match s.chan[ch].engine.state with
  | .waitToken => (s.setArbiter (s.arbiter.withdraw ch)).drive ch .closeAll
  | .sweep => ((s.onEngine ch Engine.markUncompared).drive ch .closeAll).releaseToken ch
  | .stall => (s.drive ch .closeAll).releaseToken ch
  | .hold => s.drive ch .closeAll
  | .drain => s.drive ch .closeAll
  | .done => s
  | .idle => s

/-- The engine's abort, with its hold and refresh timers stopped (R100, R104, R109). DESIGN CHOICE, notes/assumptions/22.md: the
element position, pass number, phase, raw read flag and current operation stand as they were; R78 and R100 give them no meaning
until the next start. -/
def State.abortEngine (s : State) (ch : Chan) : State :=
  (s.abortByState ch).onChan ch fun c => { c with
    engine := { c.engine with state := .idle, banks := allClosed, refreshOwed := false, awaitingReturn := false,
                              generator := AddressGenerator.empty, passSeed := none }
    timers := { (c.timers.stopRefresh) with hold := none } }

end Sys2Proof.Machine
end

