-- ==== Sys2Proof/Machine/AllocatorOps.lean ====
section
/-! DEFINITION. The Repair Allocator's shared operations (Chapter 8): the choice and take of work, the classes of a record
and their effects, the Row Tally, and analysis. -/

namespace Sys2Proof.Machine

/-! ## Choice and take (R126, R127) -/

/-- The channel has work for the allocator (R126). -/
def Channel.hasWork (c : Channel) : Bool := !c.queue.records.isEmpty || c.allocation.request.isSome

/-- The tally holds the bank and row with the must-remap mark. -/
def tallyMarks (tally : List TallyEntry) (bank : Bank) (row : Row) : Bool :=
  tally.any fun t => t.bank == bank && t.row == row && t.mustRemap

/-- The class a record is given at its take (R128). -/
def State.classify (s : State) (f : FailRecord) : RecordClass :=
  let c := s.chan[f.channel]
  match f.phase with
  | .verify => .verify
  | .raw =>
    if c.geometry.serviceRows ≤ f.row.toNat then .reserveRow
    else if (s.wordLookup .proving f.channel f.bank f.row f.column).isSome
        || (s.rowLookup .proving f.channel f.bank f.row).isSome
        || tallyMarks c.allocation.tally f.bank f.row then .covered
    else .newFail

/-- A take that leaves 15 records releases an engine in STALL (R90, R120). -/
def Engine.unstall (e : Engine) (records : Nat) : Engine :=
  if e.state = .stall ∧ records < Config.failQueueDepth then { e with state := .sweep } else e

/-- The allocator takes a chosen channel's work: its oldest record, which it classifies, or its analysis request. With its
record in service the channel's drain condition cannot hold, so the engine's test at the take finds nothing (R96). -/
def State.takeWork (s : State) (ch : Chan) : State :=
  match s.chan[ch].queue.records with
  | f :: rest =>
    let kind := s.classify f
    (s.setAllocator { item := .record f kind, lastServed := ch }).onChan ch fun c => { c with
      queue := { c.queue with records := rest }
      engine := c.engine.unstall rest.length }
  | [] =>
    match s.chan[ch].allocation.request with
    | some flag =>
      (s.setAllocator { item := .analysis ch flag, lastServed := ch }).onAllocation ch fun a => { a with request := none }
    | none => s

/-- An idle allocator chooses the first channel with work after the last-served channel, and takes its work (R126,
R127). -/
def State.choose (s : State) : State :=
  if s.allocator.item = .idle then
    match nextInCycle s.allocator.lastServed 4 fun ch => s.chan[ch].hasWork with
    | some ch => s.takeWork ch
    | none => s
  else s

/-- The steps of PREPARING are taken once the channel is in PREPARING with an empty read return list (R149); the work that a
run may place at once is then before the allocator. -/
def State.prepareIfReady (s : State) (ch : Chan) : State :=
  if s.chan[ch].control.state = .preparing ∧ s.chan[ch].path.returns = [] then (s.prepare ch).choose else s

/-- The allocator becomes idle. -/
def State.idleAllocator (s : State) : State := s.setAllocator { s.allocator with item := .idle }

/-- Change a channel's allocation counters. -/
def State.onAllocCounters (s : State) (ch : Chan) (f : AllocationCounters → AllocationCounters) : State :=
  s.onAllocation ch fun a => { a with counters := f a.counters }

/-! ## The Row Tally (R132) -/

/-- The entry is of this bank and row. -/
def TallyEntry.ofRow (t : TallyEntry) (bank : Bank) (row : Row) : Bool := t.bank == bank && t.row == row

/-- The tally after its step for a new fail: the row is in it, or joins it, or takes an unmarked row's place; `none` is
the overflow of a tally whose entries all bear the mark (R132). -/
def tallyStep (tally : List TallyEntry) (bank : Bank) (row : Row) : Option (List TallyEntry) :=
  let joined : TallyEntry := { bank := bank, row := row, count := 0, mustRemap := false }
  if tally.any fun t => t.ofRow bank row then some tally
  else if tally.length < Config.tallyDepth then some (tally ++ [joined])
  else match tally.findIdx? fun t => !t.mustRemap with
    | some i => some (tally.eraseIdx i ++ [joined])
    | none => none

/-- A creation counted in a tally entry, which is marked when its count reaches the threshold (R133). -/
def TallyEntry.grow (t : TallyEntry) (threshold : Nat) : TallyEntry :=
  let count := Counter.inc t.count
  { t with count := count, mustRemap := t.mustRemap || count.toNat == threshold }

/-- A creation counted in the tally's entry for a bank and row (R133). -/
def tallyGrow (tally : List TallyEntry) (bank : Bank) (row : Row) (threshold : Nat) : List TallyEntry :=
  tally.map fun t => if t.ofRow bank row then t.grow threshold else t

/-! ## The effects of a record's class (R129 to R133) -/

/-- A VERIFY record (R129). -/
def State.verifyRecord (s : State) (f : FailRecord) : State :=
  s.onAllocCounters f.channel fun k => { k with verifyFails := Counter.inc k.verifyFails }

/-- The RAW record is counted, with a number of repeats discarded. -/
def State.countRaw (s : State) (f : FailRecord) (repeats : Nat) : State :=
  s.onAllocCounters f.channel fun k =>
    { k with rawRecords := Counter.inc k.rawRecords, repeatsDiscarded := Counter.add k.repeatsDiscarded repeats }

/-- A valid REMAP of the channel that holds a reserve row of a bank. -/
def Repair.holdsReserve (r : Repair) (ch : Chan) (bank : Bank) (reserve : Nat) : Bool :=
  r.channel == ch && r.bank == bank && r.kind == .remap reserve

/-- A reserve row becomes BAD and is counted. -/
def State.spoilReserve (s : State) (f : FailRecord) (reserve : Nat) : State :=
  (s.setReserveRow f.channel f.bank reserve .bad).onAllocCounters f.channel fun k =>
    { k with badReserve := Counter.inc k.badReserve }

/-- A reserve-row record (Table 8.2). -/
def State.reserveRecord (s : State) (f : FailRecord) : State :=
  let reserve := reserveIndex s.chan[f.channel].geometry f.row
  let s := s.countRaw f 0
  match reserveAt s.chan[f.channel].allocation.reserve f.bank reserve with
  | some .untested => s.spoilReserve f reserve
  | some .good => s.spoilReserve f reserve
  | some .bad => s
  | some .inUse =>
    ((s.releaseWhere fun r => r.holdsReserve f.channel f.bank reserve).spoilReserve f reserve).onAllocCounters
      f.channel fun k => { k with reserveLost := Counter.inc k.reserveLost }
  | none => s

/-- A covered record (R131). -/
def State.coveredRecord (s : State) (f : FailRecord) : State := s.countRaw f f.repeats.toNat

/-- The SUBSTITUTE a new fail asks for (R133). -/
def State.substituteFor (s : State) (f : FailRecord) : Repair :=
  { channel := f.channel, origin := .found, bank := f.bank, row := f.row,
    kind := .substitute f.column (match s.chan[f.channel].setup.settings with
      | some st => st.scope
      | none => .exact) }

/-- The channel's threshold T. -/
def Channel.threshold (c : Channel) : Nat :=
  match c.setup.settings with
  | some st => st.threshold
  | none => 0

/-- The tally step of a new fail; a tally of marked rows is counted as an overflow (R132). -/
def State.tallyFail (s : State) (f : FailRecord) : State :=
  s.onAllocation f.channel fun a =>
    match tallyStep a.tally f.bank f.row with
    | some tally => { a with tally := tally }
    | none => { a with counters := { a.counters with tallyOverflows := Counter.inc a.counters.tallyOverflows } }

/-- A new fail: the tally step, the creation, and what follows from either (R132, R133). -/
def State.newFailRecord (s : State) (f : FailRecord) : State :=
  let s := s.tallyFail f
  let s := match s.create (s.substituteFor f) with
    | some s => s.onAllocation f.channel fun a =>
        { a with tally := tallyGrow a.tally f.bank f.row s.chan[f.channel].threshold }
    | none => s.onAllocation f.channel fun a =>
        { a with exhausted := true, counters := { a.counters with unallocated := Counter.inc a.counters.unallocated } }
  s.countRaw f (f.repeats.toNat - 1)

/-- The effects of a record's service (R128). -/
def State.serveRecord (s : State) (f : FailRecord) (kind : RecordClass) : State :=
  match kind with
  | .verify => s.verifyRecord f
  | .reserveRow => s.reserveRecord f
  | .covered => s.coveredRecord f
  | .newFail => s.newFailRecord f

/-! ## Analysis (R136 to R139) -/

/-- Promotion of one reserve row (R137). -/
def ReserveState.promote : ReserveState → ReserveState
  | .untested => .good
  | .good => .good
  | .bad => .bad
  | .inUse => .inUse

/-- Promotion (R137). -/
def State.promote (s : State) (ch : Chan) (sweepCompleted : Bool) : State :=
  if sweepCompleted then s.mapReserve ch ReserveState.promote else s

/-- The GOOD reserve row of a bank with the lowest index (R138). -/
def lowestGood (lists : List (List ReserveState)) (bank : Bank) : Option Nat :=
  (lists.getD bank.toNat []).findIdx? fun st => st == .good

/-- The remap of one marked row, or its shortfall (R138). -/
def State.remapMarked (ch : Chan) (s : State) (t : TallyEntry) : State :=
  match lowestGood s.chan[ch].allocation.reserve t.bank with
  | none => s.onAllocCounters ch fun k => { k with shortfalls := Counter.inc k.shortfalls }
  | some reserve =>
    let s := s.releaseWhere fun r => r.ofRow ch t.bank t.row && r.isSubstitute
    match s.create { channel := ch, origin := .found, bank := t.bank, row := t.row, kind := .remap reserve } with
    | some s => s.setReserveRow ch t.bank reserve .inUse
    | none => s

/-- The effects of an analysis, in order: promotion, then the marked rows, oldest first (R136). -/
def State.analyse (s : State) (ch : Chan) (sweepCompleted : Bool) : State :=
  let s := s.promote ch sweepCompleted
  (s.chan[ch].allocation.tally.filter fun t => t.mustRemap).foldl (State.remapMarked ch) s

/-- The engine is told that its analysis is completed: at the ANALYSE it goes on in the VERIFY phase, and at the END it
finishes the run (R97, R98, R150). -/
def State.analysisReport (s : State) (ch : Chan) : State :=
  if s.chan[ch].engine.state = .drain then
    match elementAt s.store s.chan[ch].engine.position with
    | .analyse =>
      ((s.onEngine ch fun e => { e with phase := .verify }).report ch [.analysing] .verifying).takeElementAt ch
        (s.chan[ch].engine.position + 1)
    | .finish => s.finishRun ch
    | .empty | .outside | .march _ | .hold _ _ | .repeated _ _ => s
  else s

/-- An aborted channel's item in service is cancelled, and its pending request withdrawn (R128, R140, R141). -/
def State.cancelWork (s : State) (ch : Chan) : State :=
  let s := if s.allocator.item.serves ch || s.allocator.item.analyses ch then s.idleAllocator else s
  s.onAllocation ch fun a => { a with request := none }

end Sys2Proof.Machine
end

