-- ==== Sys2Proof/Machine/AllocatorEvents.lean ====
section
/-! DEFINITION. The allocator's completions: SERVICE_COMPLETION and ANALYSIS_COMPLETION. -/

namespace Sys2Proof.Machine

/-- The record in service completes: its effects, the report to the engine, and the next choice (R128). -/
def State.completeService (s : State) : State :=
  match s.allocator.item with
  | .record f kind => (((s.serveRecord f kind).idleAllocator).drainTest f.channel).choose
  | .analysis _ _ => s
  | .idle => s

/-- SERVICE COMPLETION (R128). -/
def execServiceCompletion (s : State) : Host.Outcome State Fault Refusal := .next s.quiet.completeService

/-- The analysis in service completes: its effects, the report to the engine, and the next choice (R136). -/
def State.completeAnalysis (s : State) : State :=
  match s.allocator.item with
  | .analysis ch sweepCompleted => (((s.analyse ch sweepCompleted).idleAllocator).analysisReport ch).choose
  | .record _ _ => s
  | .idle => s

/-- ANALYSIS COMPLETION (R136). -/
def execAnalysisCompletion (s : State) : Host.Outcome State Fault Refusal := .next s.quiet.completeAnalysis

end Sys2Proof.Machine
end

