-- ==== Sys2Proof/Machine/Timing.lean ====
section
/-! DEFINITION. The channel timers' events (section 6.2 to 6.5) and the passing of time while no command waits. -/

namespace Sys2Proof.Machine

/-- What the engine does when a refresh becomes owed (Table 5.5). -/
def State.refreshDue (s : State) (ch : Chan) : State :=
  match s.chan[ch].engine.state with
  | .waitToken => s.serviceRefresh ch
  | .stall => s.serviceRefresh ch
  | .hold => s.serviceRefresh ch
  | .drain => s.serviceRefresh ch
  | .sweep =>
    if s.chan[ch].engine.awaitingReturn then
      (s.serviceRefresh ch).onEngine ch fun e => { e with awaitingReturn := false }
    else s
  | .idle => s
  | .done => s

/-- The refresh timer of a channel expires; a stopped or paused timer does not (R104 to R106). -/
def State.refreshExpiry (s : State) (ch : Chan) : State :=
  if s.chan[ch].timers.refreshMode = .running then
    ((s.onTimers ch fun t => { t with refreshElapsed := 0 }).onEngine ch fun e =>
      { e with refreshOwed := true }).refreshDue ch
  else s

/-- After a STOP hold the engine owes the recovery refresh and services it before any other command (R107). -/
def State.recover (s : State) (ch : Chan) (refresh : HoldRefresh) : State :=
  match refresh with
  | .keep => s
  | .stop => (s.onEngine ch fun e => { e with refreshOwed := true }).serviceRefresh ch

/-- The hold timer of an engine in HOLD expires (R95, R106, R107, R109). -/
def State.holdExpiry (s : State) (ch : Chan) : State :=
  if s.chan[ch].engine.state = .hold ∧ s.chan[ch].timers.hold.isSome then
    match elementAt s.store s.chan[ch].engine.position with
    | .hold _ refresh =>
      (((s.onTimers ch fun t => { (t.resume) with hold := none }).recover ch refresh).takeElementAt ch
        (s.chan[ch].engine.position + 1)).choose
    | .empty | .outside | .march _ | .repeated _ _ | .analyse | .finish => s
  else s

/-- A whole millisecond elapses on a running clock (R110). -/
def Timers.millisecond (t : Timers) : Timers := if t.clockRunning then { t with clock := Counter.inc t.clock } else t

/-- A tenth of a microsecond passes on the refresh and hold timers that run. Their expiries are commands of their own, so an
elapsed time stops at its period (R103, R104, R109; DESIGN CHOICE, notes/assumptions/4.md). -/
def Channel.tick (c : Channel) : Channel :=
  let t := c.timers
  let interval := match c.setup.settings with
    | some st => st.refreshInterval
    | none => 0
  { c with timers := { t with
      refreshElapsed :=
        if t.refreshMode = .running ∧ t.refreshElapsed < interval then t.refreshElapsed + 1 else t.refreshElapsed
      hold := t.hold.map fun h =>
        if h.elapsed < h.duration * Config.tenthsPerMillisecond then { h with elapsed := h.elapsed + 1 } else h } }

/-- No command waits: every bus is idle and a tenth of a microsecond passes. -/
def State.idleStep (s : State) : State := s.quiet.mapChan fun _ c => c.tick

end Sys2Proof.Machine
end

