-- ==== Sys2Proof/Machine/EngineEvents.lean ====
section
/-! DEFINITION. The events of a channel's Channel Control, March Engine and timers: PREPARE_RUN, ENGINE_WRITE, ENGINE_READ,
HOLD_TIMER_EXPIRY, REFRESH_TIMER_EXPIRY and RUN_CLOCK_MILLISECOND. An event that cannot come about in a state changes
nothing but the idle buses (notes/assumptions/1.md). -/

namespace Sys2Proof.Machine

/-- PREPARE RUN (R149). -/
def execPrepareRun (ch : Chan) (s : State) : Host.Outcome State Fault Refusal := .next (s.quiet.prepareIfReady ch)

/-- The operation and address the engine is at, when it is in SWEEP with no READ of its own to be compared (R85). -/
def State.readyOp (s : State) (ch : Chan) : Option (Nat × Op × Address) :=
  if s.chan[ch].engine.state = .sweep ∧ s.chan[ch].engine.reading = false then
    match s.currentOp ch, s.chan[ch].address with
    | some (element, o), some a => some (element, o, a)
    | some _, none => none
    | none, _ => none
  else none

/-- ENGINE WRITE (R85, R88). -/
def execEngineWrite (ch : Chan) (s : State) : Host.Outcome State Fault Refusal :=
  .next (match s.readyOp ch with
    | some (_, o, a) => if o.isRead then s.quiet else (s.quiet.doWrite ch o a).choose
    | none => s.quiet)

/-- ENGINE READ (R85, R89). -/
def execEngineRead (ch : Chan) (s : State) : Host.Outcome State Fault Refusal :=
  .next (match s.readyOp ch with
    | some (element, o, a) => if o.isRead then s.quiet.doRead ch element o a else s.quiet
    | none => s.quiet)

/-- HOLD TIMER EXPIRY (R109). -/
def execHoldTimerExpiry (ch : Chan) (s : State) : Host.Outcome State Fault Refusal := .next (s.quiet.holdExpiry ch)

/-- REFRESH TIMER EXPIRY (R105). -/
def execRefreshTimerExpiry (ch : Chan) (s : State) : Host.Outcome State Fault Refusal := .next (s.quiet.refreshExpiry ch)

/-- RUN CLOCK MILLISECOND (R110). -/
def execRunClockMillisecond (ch : Chan) (s : State) : Host.Outcome State Fault Refusal :=
  .next (s.quiet.onTimers ch Timers.millisecond)

end Sys2Proof.Machine
end

