-- ==== Sys2Proof/Machine/Replies.lean ====
section
/-! DEFINITION. The maintenance port's replies (Chapter 11): status bytes, the codes of Table 11.3, the reply records, and
what a read transaction returns. -/

namespace Sys2Proof.Machine

/-! ## Status bytes (R169) -/

def statusOk : Byte := 0x00#8

def statusBusy : Byte := 0x01#8

def statusNotRunning : Byte := 0x02#8

def statusBadArgument : Byte := 0x03#8

def statusDisabled : Byte := 0x04#8

def statusStarting : Byte := 0x05#8

/-- Byte `i` of a read transaction: the buffer's bytes, then FFh (R168). -/
def State.replyByte (s : State) (i : Nat) : Byte := s.reply.getD i 0xFF#8

/-! ## Codes (Table 11.3) -/

def ImageStatus.code : ImageStatus → Nat
  | .none => 0
  | .absent => 1
  | .unsupported => 2
  | .damaged => 3
  | .good => 4

def ChannelState.code : ChannelState → Nat
  | .disabled => 0
  | .preparing => 1
  | .testing => 2
  | .analysing => 3
  | .verifying => 4
  | .service => 5
  | .failed => 6

def RunOutcome.code : RunOutcome → Nat
  | .none => 0
  | .untested => 1
  | .pass => 2
  | .repaired => 3
  | .failed => 4
  | .aborted => 5

def Entry.code : Entry → Nat
  | .free => 0
  | .lent _ => 1
  | .tentative _ => 2
  | .active _ => 3

def RepairKind.code : RepairKind → Nat
  | .substitute _ _ => 0
  | .remap _ => 1

def Origin.code : Origin → Nat
  | .carried => 0
  | .found => 1

def Scope.code : Scope → Nat
  | .exact => 0
  | .spanA => 1
  | .spanB => 2

def ReserveState.code : ReserveState → Nat
  | .untested => 0
  | .good => 1
  | .bad => 2
  | .inUse => 3

def SettingsError.code : SettingsError → Nat
  | .none => 0
  | .image => 1
  | .geometry => 2
  | .programStart => 3
  | .badKind => 4
  | .emptyMarch => 5
  | .secondAnalyse => 6
  | .spanBeforeStart => 7
  | .spanContent => 8
  | .noEnd => 9

/-! ## Reply records -/

/-- GET STATUS (Table 11.2). -/
def State.statusReply (s : State) : List Byte :=
  statusOk :: numberBytes 1 s.loader.status.code
    ++ ((List.finRange 4).flatMap fun ch =>
        numberBytes 1 s.chan[ch].control.state.code ++ numberBytes 1 s.chan[ch].control.outcome.code)
    ++ numberBytes 1 s.outcomeCauses ++ numberBytes 1 s.anomalyCauses

/-- An absent 1-byte field and an absent 2-byte field (Table 11.2). -/
def absent8 : Nat := 0xFF

/-- An absent 2-byte field (Table 11.2). -/
def absent16 : Nat := 0xFFFF

/-- The fields of a valid entry between its state and its pattern number (Table 11.2). -/
def Repair.fieldBytes (r : Repair) : List Byte :=
  numberBytes 1 r.channel.val ++ numberBytes 1 r.kind.code ++ numberBytes 1 r.origin.code
    ++ numberBytes 1 r.bank.toNat ++ numberBytes 2 r.row.toNat
    ++ match r.kind with
      | .substitute column scope => numberBytes 2 column.toNat ++ numberBytes 1 scope.code ++ numberBytes 1 absent8
      | .remap reserve => numberBytes 2 absent16 ++ numberBytes 1 absent8 ++ numberBytes 1 reserve

/-- Those fields, every one absent. -/
def absentFieldBytes : List Byte :=
  numberBytes 1 absent8 ++ numberBytes 1 absent8 ++ numberBytes 1 absent8 ++ numberBytes 1 absent8
    ++ numberBytes 2 absent16 ++ numberBytes 2 absent16 ++ numberBytes 1 absent8 ++ numberBytes 1 absent8

/-- The entry's fields, with the pattern number last. -/
def Entry.fieldBytes : Entry → List Byte
  | .free => absentFieldBytes ++ numberBytes 1 absent8
  | .lent p => absentFieldBytes ++ numberBytes 1 p.val
  | .tentative r => r.fieldBytes ++ numberBytes 1 absent8
  | .active r => r.fieldBytes ++ numberBytes 1 absent8

/-- The host sees the line of a SUBSTITUTE entry and of a LENT entry; of a FREE or a REMAP entry it sees zero (R24). -/
def Entry.showsLine : Entry → Bool
  | .free => false
  | .lent _ => true
  | .tentative r => r.isSubstitute
  | .active r => r.isSubstitute

/-- GET ENTRY (R24, Table 11.2). -/
def State.entryReply (s : State) (i : Fin 64) : List Byte :=
  let line := if s.table[i].showsLine then s.spare[i] else zeroLine
  statusOk :: numberBytes 1 s.table[i].code ++ s.table[i].fieldBytes ++ line.toList.flatMap wordBytes

/-- GET TALLY (R132, Table 11.2). -/
def State.tallyReply (s : State) (ch : Chan) : List Byte :=
  let tally := s.chan[ch].allocation.tally
  statusOk :: numberBytes 1 tally.length
    ++ tally.flatMap fun t =>
      numberBytes 1 t.bank.toNat ++ numberBytes 2 t.row.toNat
        ++ numberBytes 1 (t.count.toNat + if t.mustRemap then 128 else 0)

/-- The number of banks a GET RESERVE may ask about (R169). -/
def Channel.reserveBanks (c : Channel) : Nat := c.geometry.banks

/-- The Q that GET RESERVE reports: an untested channel's is 0, and so is that of a channel without geometry
(Table 11.2). -/
def Channel.reportedQ (c : Channel) : Nat := if c.setup.code = .none then c.geometry.q else 0

/-- GET RESERVE for a bank (Table 11.2). -/
def State.reserveReply (s : State) (ch : Chan) (bank : Nat) : List Byte :=
  let c := s.chan[ch]
  statusOk :: numberBytes 1 c.reportedQ
    ++ (((c.allocation.reserve.getD bank []).take c.reportedQ).flatMap fun st => numberBytes 1 st.code)

/-- A first-fail capture's 13 bytes (R171). -/
def captureBytes : Option FirstFail → List Byte
  | some f =>
      numberBytes 1 1 ++ numberBytes 1 f.bank.toNat ++ numberBytes 2 f.row.toNat ++ numberBytes 2 f.column.toNat
        ++ numberBytes 1 f.element ++ numberBytes 1 f.pass ++ numberBytes 4 f.position ++ numberBytes 1 f.count
  | none => List.replicate 13 0

/-- The joins ignored that the result record reports (R171). -/
def Channel.joinsIgnored (c : Channel) : Nat :=
  match c.setup.plan with
  | some plan => plan.joinsIgnored
  | none => 0

/-- GET RESULT: the result record of Table 11.4. -/
def State.resultReply (s : State) (ch : Chan) : List Byte :=
  let c := s.chan[ch]
  let r := c.result
  let k := r.allocation
  statusOk :: numberBytes 1 c.control.outcome.code ++ numberBytes 1 c.setup.code.code
    ++ numberBytes 2 c.control.runCount.toNat ++ numberBytes 2 c.control.resumedCount.toNat
    ++ numberBytes 1 r.substitutes ++ numberBytes 1 r.remaps
    ++ numberBytes 4 k.rawRecords.toNat ++ numberBytes 4 k.repeatsDiscarded.toNat ++ numberBytes 4 k.unallocated.toNat
    ++ numberBytes 4 k.shortfalls.toNat ++ numberBytes 4 k.badReserve.toNat ++ numberBytes 4 k.reserveLost.toNat
    ++ numberBytes 4 k.verifyFails.toNat ++ numberBytes 4 k.tallyOverflows.toNat
    ++ numberBytes 4 r.queue.appended.toNat ++ numberBytes 4 r.queue.merges.toNat
    ++ numberBytes 4 r.queue.discarded.toNat
    ++ numberBytes 2 r.holdClamps.toNat ++ numberBytes 2 r.engine.fallbacks.toNat
    ++ numberBytes 1 c.joinsIgnored ++ numberBytes 2 c.setup.dropped.toNat
    ++ captureBytes r.firstRaw ++ captureBytes r.firstVerify
    ++ numberBytes 4 r.runTime.toNat
    ++ numberBytes 6 r.engine.reads.toNat ++ numberBytes 6 r.engine.writes.toNat
    ++ numberBytes 6 r.engine.refreshes.toNat

/-- GET COUNTERS: the counter group in the order of R172. -/
def State.countersReply (s : State) (ch : Chan) : List Byte :=
  let c := s.chan[ch]
  let e := c.engine.counters
  let q := c.queue.counters
  let k := c.allocation.counters
  let a := c.path.anomalies
  statusOk :: numberBytes 6 e.reads.toNat ++ numberBytes 6 e.writes.toNat ++ numberBytes 6 e.refreshes.toNat
    ++ numberBytes 2 e.fallbacks.toNat ++ numberBytes 2 c.timers.holdClamps.toNat
    ++ numberBytes 4 c.timers.clock.toNat
    ++ numberBytes 4 q.appended.toNat ++ numberBytes 4 q.merges.toNat ++ numberBytes 4 q.discarded.toNat
    ++ numberBytes 4 k.rawRecords.toNat ++ numberBytes 4 k.repeatsDiscarded.toNat ++ numberBytes 4 k.unallocated.toNat
    ++ numberBytes 4 k.tallyOverflows.toNat ++ numberBytes 4 k.badReserve.toNat ++ numberBytes 4 k.reserveLost.toNat
    ++ numberBytes 4 k.verifyFails.toNat ++ numberBytes 4 k.shortfalls.toNat
    ++ numberBytes 2 a.heldOff.toNat ++ numberBytes 2 a.intrusions.toNat ++ numberBytes 2 a.maskedWrites.toNat
    ++ numberBytes 2 a.unopened.toNat ++ numberBytes 2 a.overruns.toNat

/-! ## Taking a command (R168, R169) -/

/-- A command is taken: until the loader is FINISHED it is answered STARTING and has no other effect. -/
def State.maintenance (s : State) (effect : State → State) : State :=
  if s.loader.phase = .finished then effect s else s.setReply [statusStarting]

/-- A command with a channel argument: above 3 it is refused with BAD_ARGUMENT. -/
def State.channelCommand (s : State) (arg : Byte) (effect : State → Chan → State) : State :=
  s.maintenance fun s =>
    match channelArgument arg with
    | some ch => effect s ch
    | none => s.setReply [statusBadArgument]

end Sys2Proof.Machine
end

