-- ==== Sys2Proof/Machine/Maintenance.lean ====
section
/-! DEFINITION. The maintenance commands (R153 to R155, R168 to R173). -/

namespace Sys2Proof.Machine

/-- GET STATUS (R170). -/
def execGetStatus (_arg : Byte) (s : State) : Host.Outcome State Fault Refusal :=
  .next (s.quiet.maintenance fun s => s.setReply s.statusReply)

/-- GET RESULT (R171). -/
def execGetResult (arg : Byte) (s : State) : Host.Outcome State Fault Refusal :=
  .next (s.quiet.channelCommand arg fun s ch => s.setReply (s.resultReply ch))

/-- GET ENTRY (R24). -/
def execGetEntry (arg : Byte) (s : State) : Host.Outcome State Fault Refusal :=
  .next (s.quiet.maintenance fun s =>
    match entryArgument arg with
    | some i => s.setReply (s.entryReply i)
    | none => s.setReply [statusBadArgument])

/-- GET TALLY (R132). -/
def execGetTally (arg : Byte) (s : State) : Host.Outcome State Fault Refusal :=
  .next (s.quiet.channelCommand arg fun s ch => s.setReply (s.tallyReply ch))

/-- GET RESERVE (R169, R170). -/
def execGetReserve (arg : Byte) (s : State) : Host.Outcome State Fault Refusal :=
  .next (s.quiet.maintenance fun s =>
    if reserveBank arg < s.chan[reserveChannel arg].reserveBanks then
      s.setReply (s.reserveReply (reserveChannel arg) (reserveBank arg))
    else s.setReply [statusBadArgument])

/-- GET COUNTERS (R172). -/
def execGetCounters (arg : Byte) (s : State) : Host.Outcome State Fault Refusal :=
  .next (s.quiet.channelCommand arg fun s ch => s.setReply (s.countersReply ch))

/-- RETEST is taken: the outcome becomes NONE and the channel enters PREPARING, whose wait passes at once when the read
return list is empty (R149, R155). -/
def State.takeRetest (s : State) (ch : Chan) : State :=
  ((s.setReply [statusOk]).onControl ch fun k => { k with state := .preparing, outcome := .none }).prepareIfReady ch

/-- RETEST by the channel's state (Table 9.4). -/
def State.retest (s : State) (ch : Chan) : State :=
  match s.chan[ch].control.state with
  | .service =>
    if s.chan[ch].control.outcome = .untested then s.setReply [statusDisabled] else s.takeRetest ch
  | .failed => s.takeRetest ch
  | .preparing => s.setReply [statusBusy]
  | .testing => s.setReply [statusBusy]
  | .analysing => s.setReply [statusBusy]
  | .verifying => s.setReply [statusBusy]
  | .disabled => s.setReply [statusDisabled]

/-- RETEST (R155). -/
def execRetest (arg : Byte) (s : State) : Host.Outcome State Fault Refusal :=
  .next (s.quiet.channelCommand arg State.retest)

/-- Every record of the channel's Fail Queue is discarded and counted (R122). -/
def State.discardQueue (s : State) (ch : Chan) : State :=
  s.onQueue ch fun q => { q with
    records := []
    counters := { q.counters with discarded := Counter.add q.counters.discarded q.records.length } }

/-- The actions of an ABORT that is taken (R153), after which an allocator that has become idle chooses again
(notes/assumptions/7.md). -/
def State.takeAbort (s : State) (ch : Chan) : State :=
  let preparing := s.chan[ch].control.state = .preparing
  let s := (((s.setReply [statusOk]).abortEngine ch).cancelWork ch).discardQueue ch
  let s := ((if preparing then s.reopen ch else s).abortRelease ch).stopClock ch
  (((s.returnLines ch).copyResult ch).onControl ch fun k => { k with state := .failed, outcome := .aborted }).choose

/-- ABORT by the channel's state (R153, R154). -/
def State.abort (s : State) (ch : Chan) : State :=
  if s.chan[ch].control.state.running then s.takeAbort ch else s.setReply [statusNotRunning]

/-- ABORT (R153). -/
def execAbort (arg : Byte) (s : State) : Host.Outcome State Fault Refusal :=
  .next (s.quiet.channelCommand arg State.abort)

/-- Every baseline is set to its counter's value (R173). -/
def State.acknowledge (s : State) : State :=
  (s.setReply [statusOk]).mapChan fun _ c => { c with baselines := c.path.anomalies }

/-- ACKNOWLEDGE (R173). -/
def execAcknowledge (_arg : Byte) (s : State) : Host.Outcome State Fault Refusal :=
  .next (s.quiet.maintenance State.acknowledge)

/-- A maintenance write whose code is not in Table 11.1 is refused with BAD_ARGUMENT (R169). A code of the table makes the
command that the table names, so that the write is taken as the port takes it. -/
def execUnknownCommand (code arg : Byte) (s : State) : Host.Outcome State Fault Refusal :=
  if code = 0x01#8 then execGetStatus arg s
  else if code = 0x02#8 then execGetResult arg s
  else if code = 0x03#8 then execGetEntry arg s
  else if code = 0x04#8 then execGetTally arg s
  else if code = 0x05#8 then execGetReserve arg s
  else if code = 0x06#8 then execGetCounters arg s
  else if code = 0x10#8 then execRetest arg s
  else if code = 0x11#8 then execAbort arg s
  else if code = 0x12#8 then execAcknowledge arg s
  else .next (s.quiet.maintenance fun s => s.setReply [statusBadArgument])

end Sys2Proof.Machine
end

