-- ==== Sys2Proof/Machine/Image.lean ====
section
/-! DEFINITION. The settings image: its checks (R159, R160) and the decoding of its fields (R161) with the clamps made at
load (R8, R67, R70, R108, R111, R164). -/

namespace Sys2Proof.Machine

/-! ## Checks -/

/-- The total length L of header bytes 4 and 5. -/
def imageLength (bytes : List Byte) : Nat := number16 bytes 4

/-- The status a failing header check sets; `none` when all three checks pass (R159). -/
def headerFailure (header : List Byte) : Option ImageStatus :=
  if byteAt header 0 ≠ 0x43 ∨ byteAt header 1 ≠ 0x4A then some .absent
  else if byteAt header 2 ≠ 1 then some .unsupported
  else if imageLength header < Config.minImage ∨ Config.maxImage < imageLength header then some .damaged
  else none

/-- One bit of the reflected CRC-32 of polynomial 04C11DB7h: bit 0 enters first (R160). -/
def crcStep (c : BitVec 32) : BitVec 32 := (c >>> 1) ^^^ (if c.getLsbD 0 then 0xEDB88320#32 else 0#32)

/-- `n` steps of the CRC. -/
def crcSteps : Nat → BitVec 32 → BitVec 32
  | 0, c => c
  | n + 1, c => crcSteps n (crcStep c)

/-- The CRC register after a run of bytes. -/
def crcFrom : BitVec 32 → List Byte → BitVec 32
  | c, [] => c
  | c, b :: rest => crcFrom (crcSteps 8 (c ^^^ b.setWidth 32)) rest

/-- The CRC-32 of R160: initial value FFFFFFFFh, result exclusive-ORed with FFFFFFFFh. -/
def crc32 (bytes : List Byte) : BitVec 32 := ~~~(crcFrom 0xFFFFFFFF#32 bytes)

/-- The check value, the last four bytes. -/
def checkValue (image : List Byte) : BitVec 32 := BitVec.ofNat 32 (number32 image (imageLength image - 4))

/-- P, the program record count. -/
def programCount (image : List Byte) : Nat := byteAt image 8

/-- S, the pattern count. -/
def patternCount (image : List Byte) : Nat := byteAt image 9

/-- M, the carried record count. -/
def carriedCount (image : List Byte) : Nat := byteAt image 10

/-- The section counts are in range and make the total length (R160). -/
def countsAgree (image : List Byte) : Bool :=
  programCount image ≤ 64 && patternCount image ≤ 8 && carriedCount image ≤ 64
    && imageLength image
      == 16 + 192 + 12 * programCount image + 72 * patternCount image + 8 * carriedCount image + 4

/-- The status of a whole image (R160). -/
def wholeStatus (image : List Byte) : ImageStatus :=
  if crc32 (image.take (imageLength image - 4)) = checkValue image ∧ countsAgree image then .good else .damaged

/-! ## The header's settings (Table 10.2) -/

/-- The activity budget K, clamped (R111). -/
def budgetOf (image : List Byte) : Nat := min (max (byteAt image 7) 1) 4

/-- The warm policy. -/
def policyOf (image : List Byte) : WarmPolicy := if byteAt image 6 = 1 then .keep else .retest

/-- The channel is in the channel-enable set. -/
def enabledIn (image : List Byte) (ch : Chan) : Bool := (byteAt image 3).testBit ch.val

/-! ## Channel sections (Table 10.3) -/

/-- Where a channel's section begins. -/
def sectionBase (ch : Chan) : Nat := 16 + 48 * ch.val

/-- b, r, c and Q as recorded. -/
def recordedGeometry (image : List Byte) (ch : Chan) : Geometry :=
  let at_ := sectionBase ch
  { b := byteAt image at_, r := byteAt image (at_ + 1), c := byteAt image (at_ + 2), q := byteAt image (at_ + 3) }

/-- The ranges of Table 0.2 (check 1 of R163). -/
def Geometry.inRange (g : Geometry) : Bool :=
  g.b ≤ 3 && 10 ≤ g.r && g.r ≤ 16 && 4 ≤ g.c && g.c ≤ 10 && g.q ≤ 32

/-- A span mask's clamp: the positions at or above c go, and then all but the lowest three (R8). -/
def clampMask (c recorded : Nat) : Column :=
  (((List.range c).filter recorded.testBit).take Config.spanDepth).foldl (fun m n => m ||| BitVec.ofNat 10 (2 ^ n)) 0

/-- MODE SET pair j of a section. -/
def modeSetAt (image : List Byte) (at_ j : Nat) : ModeSet :=
  { register := BitVec.ofNat 4 (byteAt image (at_ + 17 + 3 * j))
    value := BitVec.ofNat 16 (number16 image (at_ + 18 + 3 * j)) }

/-- The program start as recorded. -/
def recordedStart (image : List Byte) (ch : Chan) : Nat := byteAt image (sectionBase ch + 15)

/-- A channel's settings as they are taken (R8, R108, R164). -/
def settingsOf (image : List Byte) (ch : Chan) : Settings :=
  let at_ := sectionBase ch
  let g := recordedGeometry image ch
  { geometry := g
    sweepOrder := if byteAt image (at_ + 4) = 0 then .columnFast else .rowFast
    scope := if byteAt image (at_ + 5) = 0 then .exact else if byteAt image (at_ + 5) = 1 then .spanA else .spanB
    maskA := clampMask g.c (number16 image (at_ + 6))
    maskB := clampMask g.c (number16 image (at_ + 8))
    threshold := min (max (byteAt image (at_ + 10)) 2) 8
    refreshInterval := max (number16 image (at_ + 11)) 10
    retentionLimit := min (max (number16 image (at_ + 13)) 1) 4095
    programStart := recordedStart image ch
    modeSets := (List.range (min (byteAt image (at_ + 16)) 8)).map (modeSetAt image at_) }

/-! ## Program records (Table 10.4) -/

/-- An operation slot. -/
def slotOf (code : Nat) : Option Op :=
  if code = 1 then some .readTrue
  else if code = 2 then some .readInverse
  else if code = 3 then some .writeTrue
  else if code = 4 then some .writeInverse
  else none

/-- A background kind; absent when it is outside the set. -/
def backgroundOf (code : Nat) : Option BackgroundKind :=
  if code = 0 then some .solid
  else if code = 1 then some .checker
  else if code = 2 then some .rowStripe
  else if code = 3 then some .columnStripe
  else if code = 4 then some .laneWalk
  else if code = 5 then some .stored
  else if code = 6 then some .random
  else none

/-- A MARCH record; a seed of 0 is clamped to 1 (R70). -/
def marchAt (image : List Byte) (at_ : Nat) (background : BackgroundKind) : March :=
  { direction := if (byteAt image (at_ + 1)).testBit 0 then .down else .up
    joined := (byteAt image (at_ + 1)).testBit 1
    rotation := byteAt image (at_ + 2)
    slots := (List.range 4).map fun k => slotOf (byteAt image (at_ + 3 + k))
    background := background
    seed := BitVec.ofNat 16 (max (number16 image (at_ + 8)) 1)
    pattern := Fin.ofNat 8 (byteAt image (at_ + 10)) }

/-- The record at a place of the image, with the clamps of R67 and R70. -/
def elementOf (image : List Byte) (at_ : Nat) : Element :=
  let kind := byteAt image at_
  if kind = 0 then
    match backgroundOf (byteAt image (at_ + 7)) with
    | some background => .march (marchAt image at_ background)
    | none => .outside
  else if kind = 1 then
    .hold (max (number16 image (at_ + 1) % 4096) 1) (if byteAt image (at_ + 3) = 0 then .keep else .stop)
  else if kind = 2 then .repeated (byteAt image (at_ + 1) % 16) (byteAt image (at_ + 2) % 128)
  else if kind = 3 then .analyse
  else if kind = 4 then .finish
  else .outside

/-- The Program Store that an image writes (R63, R162). -/
def storeOf (image : List Byte) : Vector Element 64 :=
  Vector.ofFn fun i : Fin 64 =>
    if i.val < programCount image then elementOf image (Config.programBase + 12 * i.val) else .empty

/-! ## Patterns and carried records -/

/-- Pattern p of the image: eight words of nine bytes. -/
def patternAt (image : List Byte) (p : Nat) : Line :=
  Vector.ofFn fun w : Fin 8 => wordAt image (Config.programBase + 12 * programCount image + 72 * p + 9 * w.val)

/-- The pattern table of an image (R162). -/
def patternsOf (image : List Byte) : List Line := (List.range (patternCount image)).map (patternAt image)

/-- A carried record as recorded (R161). -/
structure CarriedRecord where
  channel : Chan
  kind : Nat
  bank : Nat
  row : Nat
  column : Nat
  last : Nat
  deriving DecidableEq, Repr

/-- Carried record k of the image. -/
def carriedAt (image : List Byte) (k : Nat) : CarriedRecord :=
  let at_ := Config.programBase + 12 * programCount image + 72 * patternCount image + 8 * k
  { channel := Fin.ofNat 4 (byteAt image at_), kind := byteAt image (at_ + 1), bank := byteAt image (at_ + 2),
    row := number16 image (at_ + 3), column := number16 image (at_ + 5), last := byteAt image (at_ + 7) }

/-- The carried records of an image, first to last. -/
def carriedOf (image : List Byte) : List CarriedRecord := (List.range (carriedCount image)).map (carriedAt image)

end Sys2Proof.Machine
end

