-- ==== Sys2Proof/Machine/Loader.lean ====
section
/-! DEFINITION. The loader's applying of an image (sections 10.3 and 10.4) and Channel Control's placement of the channels
at the end of start-up (R147, R148). -/

namespace Sys2Proof.Machine

/-! ## Settings (R162 to R164) -/

/-- The settings error code of an enabled channel: the first check that fails (R163). -/
def enabledCode (image : List Byte) (store : Vector Element 64) (ch : Chan) : SettingsError :=
  if !(recordedGeometry image ch).inRange then .geometry
  else if 63 < recordedStart image ch then .programStart
  else match validate store (recordedStart image ch) with
    | .error reason => reason
    | .ok _ => .none

/-- The plan of a channel's program, if it is accepted (R73). -/
def planOf (image : List Byte) (store : Vector Element 64) (ch : Chan) : Option Plan :=
  match validate store (recordedStart image ch) with
  | .error _ => none
  | .ok finish => some (buildPlan store (recordedStart image ch) finish)

/-- What the loader sets up for a channel under a GOOD image (R163, R164). -/
def setupOf (image : List Byte) (store : Vector Element 64) (ch : Chan) : ChannelSetup :=
  let enabled := enabledIn image ch
  let code := if enabled then enabledCode image store ch else .none
  { enabled := enabled
    settings := if (recordedGeometry image ch).inRange then some (settingsOf image ch) else none
    code := code
    plan := if enabled ∧ code = .none then planOf image store ch else none
    dropped := 0 }

/-- Under any other status every channel is untested with code IMAGE (R162). -/
def imageErrorSetup : ChannelSetup := { ChannelSetup.reset with code := .image }

/-- The channel is to be tested: it is enabled and has code NONE (R163). -/
def Channel.toBeTested (c : Channel) : Bool := c.setup.enabled && c.setup.code == .none

/-- The channel is untested (R162, R163). -/
def Channel.untested (c : Channel) : Bool := c.setup.code != .none

/-- The reserve rows of a channel, every one UNTESTED; an untested channel has none (R125, R134). -/
def Channel.freshReserve (c : Channel) : List (List ReserveState) :=
  List.replicate c.geometry.banks (List.replicate (if c.untested then 0 else c.geometry.q) .untested)

/-! ## Resumption (R148, R165) -/

/-- The conditions of R165 that the image and the loader meet, for a candidate. -/
def State.resumes (s : State) (image : List Byte) (ch : Chan) : Bool :=
  s.chan[ch].control.candidate && policyOf image == .keep && s.loader.previousCheck == some (checkValue image)
    && s.chan[ch].toBeTested

/-- A channel that does not resume starts from nothing: its entries are released, its reserve rows are UNTESTED, and its
outcome, counts and results are cleared (R148, R171). For a channel that was no candidate this changes only the reserve
rows, which take the geometry now in force. -/
def State.startAfresh (s : State) (ch : Chan) : State :=
  (s.releaseWhere fun r => r.channel == ch).onChan ch fun c => { c with
    control := Control.reset
    result := CopiedResult.reset
    allocation := { c.allocation with reserve := c.freshReserve } }

/-- The resumption decisions of all four channels, made before any carried record is loaded (R165). -/
def State.decideResumption (s : State) (resumes : Chan → Bool) : State :=
  (List.finRange 4).foldl (fun s ch => if resumes ch then s else s.startAfresh ch) s

/-! ## Carried repairs (R166) -/

/-- The fields of a carried record are in range for a geometry (drop reason 2). -/
def CarriedRecord.inRange (k : CarriedRecord) (g : Geometry) : Bool :=
  k.bank < g.banks && k.row < g.serviceRows
    && ((k.kind == 0 && k.column < g.columns && k.last < 3) || (k.kind == 1 && k.last < g.q))

/-- The repair a carried record asks for. -/
def CarriedRecord.repair (k : CarriedRecord) : Repair :=
  { channel := k.channel, origin := .carried, bank := BitVec.ofNat 3 k.bank, row := BitVec.ofNat 16 k.row,
    kind := if k.kind = 1 then .remap k.last
      else .substitute (BitVec.ofNat 10 k.column) (if k.last = 0 then .exact else if k.last = 1 then .spanA else .spanB) }

/-- Some valid entry of the table meets a test. -/
def State.anyRepair (s : State) (p : Repair → Bool) : Bool :=
  (List.finRange 64).any fun i =>
    match s.table[i].repair? with
    | some r => p r
    | none => false

/-- Two repairs have the same kind, scope and compared column bits; their rows are compared apart (R7). -/
def RepairKind.duplicates (c : Channel) (a b : RepairKind) : Bool :=
  match a, b with
  | .remap _, .remap _ => true
  | .substitute columnA scopeA, .substitute columnB scopeB =>
      scopeA == scopeB && columnMatches c.geometry (c.ignored scopeA) columnA columnB
  | .remap _, .substitute _ _ => false
  | .substitute _ _, .remap _ => false

/-- A carried record is dropped by one of the reasons 1 to 6 of R166: its channel is not to be tested; a field is out of
range; it would duplicate a valid entry; its row is held by an entry of the other kind; its reserve row is IN_USE. -/
def State.barsCarried (s : State) (k : CarriedRecord) : Bool :=
  let c := s.chan[k.channel]
  let r := k.repair
  !c.toBeTested || !k.inRange c.geometry
    || (s.anyRepair fun e => e.ofRow r.channel r.bank r.row && e.kind.duplicates c r.kind)
    || (s.anyRepair fun e => e.ofRow r.channel r.bank r.row && e.isRemap != r.isRemap)
    || match r.kind with
      | .remap reserve => reserveAt c.allocation.reserve r.bank reserve == some .inUse
      | .substitute _ _ => false

/-- A dropped record is counted for its channel. -/
def State.dropCarried (s : State) (ch : Chan) : State :=
  s.onSetup ch fun u => { u with dropped := Counter.inc u.dropped }

/-- A created REMAP's reserve row becomes IN_USE (R166). -/
def State.holdReserve (s : State) (r : Repair) : State :=
  match r.kind with
  | .remap reserve => s.setReserveRow r.channel r.bank reserve .inUse
  | .substitute _ _ => s

/-- One carried record: skipped for a resuming channel, dropped and counted, or created (R166). -/
def State.loadCarried (resumes : Chan → Bool) (s : State) (k : CarriedRecord) : State :=
  if resumes k.channel then s
  else if s.barsCarried k then s.dropCarried k.channel
  else match s.create k.repair with
    | some s => s.holdReserve k.repair
    | none => s.dropCarried k.channel

/-! ## The end of the load (R147, R167) -/

/-- Placement of one channel (Table 9.2). A channel to be tested runs on to TESTING at once, and its work may be taken by
the allocator before the next channel is placed. -/
def State.place (resumes : Chan → Bool) (s : State) (ch : Chan) : State :=
  if resumes ch then
    (s.enterService ch s.chan[ch].control.outcome).onControl ch fun k =>
      { k with candidate := false, resumedCount := Counter.inc k.resumedCount }
  else if s.chan[ch].untested then s.enterService ch .untested
  else if s.chan[ch].setup.enabled then
    (s.onControl ch fun k => { k with state := .preparing, outcome := .none }).prepareIfReady ch
  else s.onControl ch fun k => { k with state := .disabled, outcome := .none }

/-- The order in which the channels are placed: the given one, and after it the channels it does not name. -/
def placementOrder (order : List Chan) : List Chan := (order ++ List.finRange 4).eraseDups

/-- The loader ends the load with a status, keeping what it keeps for use after start-up. -/
def State.endLoad (s : State) (status : ImageStatus) (check : Option (BitVec 32)) : State :=
  s.setLoader { s.loader with
    phase := .finished, status := status, image := [], previousCheck := check.orElse fun _ => s.loader.previousCheck }

/-- The load of an image that is not GOOD: no candidate resumes, and every channel is untested (R162). -/
def State.loadFailed (s : State) (status : ImageStatus) : State :=
  let s := s.setLoader { s.loader with patternTable := [], policy := some .retest }
  let s := s.mapChan fun _ c => { c with setup := imageErrorSetup }
  let s := s.decideResumption fun _ => false
  (List.finRange 4).foldl (State.place fun _ => false) (s.endLoad status none)

/-- The global part of a GOOD image (R162), and every channel's section (R163, R164). -/
def State.applyImage (s : State) (image : List Byte) : State :=
  let s := s.setArbiter { s.arbiter with budget := budgetOf image }
  let s := s.setStore (storeOf image)
  let s := s.setLoader { s.loader with patternTable := patternsOf image, policy := some (policyOf image) }
  s.mapChan fun ch c => { c with setup := setupOf image s.store ch }

/-- The load of a GOOD image (sections 10.3 and 10.4). -/
def State.loadGood (s : State) (image : List Byte) (order : List Chan) : State :=
  let s := s.applyImage image
  let resumes := s.resumes image
  let s := s.decideResumption resumes
  let s := (carriedOf image).foldl (State.loadCarried resumes) s
  (placementOrder order).foldl (State.place resumes) (s.endLoad .good (some (checkValue image)))

end Sys2Proof.Machine
end

