-- ==== Sys2Proof/Machine/Resets.lean ====
section
/-! DEFINITION. POWER_ON_RESET and WARM_RESTART (R22, R23, R45, R81, R103, R111, R116, R125, R144, R146, R157, R171). -/

namespace Sys2Proof.Machine

/-- A channel that warm restart holds over: it is in SERVICE with outcome PASS or REPAIRED (R146). -/
def Channel.isCandidate (c : Channel) : Bool :=
  c.control.state == .service && (c.control.outcome == .pass || c.control.outcome == .repaired)

/-- A channel after warm restart. A candidate keeps its outcome, counts, Reserve Row Lists and results, in FAILED. -/
def Channel.warm (c : Channel) : Channel :=
  if c.isCandidate then
    { Channel.reset with
      control := { c.control with state := .failed, candidate := true }
      allocation := { ChannelAllocation.reset with reserve := c.allocation.reserve }
      result := c.result }
  else Channel.reset

/-- An entry after warm restart: only a candidate's entries stay (R23). -/
def State.warmEntry (s : State) (e : Entry) : Entry :=
  match e.repair? with
  | some r => if s.chan[r.channel].isCandidate then e else .free
  | none => .free

/-- The machine after warm restart. The Spare Store keeps its words: a candidate's lines are kept, and the others cannot be
observed (R3, R23). -/
def State.warm (s : State) : State :=
  { chan := Vector.ofFn fun ch => s.chan[ch].warm
    table := Vector.ofFn fun i => s.warmEntry s.table[i]
    spare := s.spare
    store := Vector.replicate 64 .empty
    arbiter := Arbiter.reset
    allocator := Allocator.reset
    loader := Loader.reset s.loader.previousCheck
    reply := []
    spiOut := Config.flashReadCommand
    pending := s.pending }

/-- POWER_ON_RESET (R144). -/
def execPowerOnReset (s : State) : Host.Outcome State Fault Refusal := .next (State.reset.setPending s.pending)

/-- WARM_RESTART (R146). -/
def execWarmRestart (s : State) : Host.Outcome State Fault Refusal := .next s.warm

end Sys2Proof.Machine
end

