-- ==== Sys2Proof/Machine/PathOps.lean ====
section
/-! DEFINITION. The channel path's shared operations (Chapter 3): what a serving path does with each controller-side
command, what a held-off path does, and the pairing of device read returns with the read return list. -/

namespace Sys2Proof.Machine

/-- Count an anomaly of a channel's path (R62). -/
def State.countAnomaly (s : State) (ch : Chan) (f : Anomalies → Anomalies) : State :=
  s.onPath ch fun p => { p with anomalies := f p.anomalies }

/-- A held-off command is counted (R58). -/
def State.heldOff (s : State) (ch : Chan) : State := s.countAnomaly ch Anomalies.countHeldOff

/-- Set one bank of the tracker. -/
def State.track (s : State) (ch : Chan) (bank : Bank) (x : Option OpenRow) : State :=
  s.onPath ch fun p => { p with tracker := setBank p.tracker bank x }

/-- Every bank of the tracker is closed. -/
def State.trackClosed (s : State) (ch : Chan) : State := s.onPath ch fun p => { p with tracker := allClosed }

/-- Append an item to the read return list. -/
def State.appendReturn (s : State) (ch : Chan) (item : ReturnItem) : State :=
  s.onPath ch fun p => { p with returns := p.returns ++ [item] }

/-- What a bank of a serving path is (R52, R57): closed, open at an intrusion row (R49), or open at a service row. -/
inductive BankUse where
  | closed
  | intrusion (row : Row)
  | service (row : Row)
  deriving DecidableEq, Repr

/-- The use of a bank, by its place in the tracker. -/
def Channel.bankUse (c : Channel) (bank : Bank) : BankUse :=
  match bankAt c.path.tracker bank with
  | none => .closed
  | some o => if o.target.toNat < c.servedGeometry.serviceRows then .service o.target else .intrusion o.target

/-! ## OPEN ROW (R48, R49) -/

/-- A serving path takes OPEN ROW. -/
def State.servedOpenRow (s : State) (ch : Chan) (bank : Bank) (row : Row) : State :=
  let g := s.chan[ch].servedGeometry
  let b := decodeBank g bank
  let r := decodeRow g row
  if r.toNat < g.serviceRows then
    match s.rowLookup .service ch b r with
    | some reserve =>
      (s.drive ch (.openRow bank (remapRow g reserve))).track ch b (some { target := r, physical := remapRow g reserve })
    | none => (s.drive ch (.openRow bank row)).track ch b (some { target := r, physical := r })
  else
    ((s.drive ch (.openRow bank row)).track ch b (some { target := r, physical := r })).countAnomaly ch
      Anomalies.countIntrusion

/-! ## READ (R51, R52, R59, R60) -/

/-- The item that a served READ appends (R52). -/
def State.readItem (s : State) (ch : Chan) (bank : Bank) (column : Column) : ReturnItem :=
  match s.chan[ch].bankUse bank with
  | .closed => .device
  | .intrusion _ => .device
  | .service row =>
    match s.wordLookup .service ch bank row column with
    | some place => .captured (s.spareWord place)
    | none => .device

/-- A serving path takes READ. -/
def State.servedRead (s : State) (ch : Chan) (bank : Bank) (column : Column) : State :=
  if Config.returnDepth ≤ s.chan[ch].path.returns.length then s.countAnomaly ch Anomalies.countOverrun
  else
    let g := s.chan[ch].servedGeometry
    let b := decodeBank g bank
    let item := s.readItem ch b (decodeColumn g column)
    let s' := (s.drive ch (.read bank column)).appendReturn ch item
    if s.chan[ch].bankUse b = .closed then s'.countAnomaly ch Anomalies.countUnopened else s'

/-- A held-off path takes READ: poison at once when the list is empty, a poison item otherwise, and a refusal when the
list is full. -/
def State.heldOffRead (s : State) (ch : Chan) : State :=
  let s' := s.heldOff ch
  if s.chan[ch].path.returns = [] then s'.deliver ch poisonWord
  else if Config.returnDepth ≤ s.chan[ch].path.returns.length then s'.countAnomaly ch Anomalies.countOverrun
  else s'.appendReturn ch .poison

/-! ## WRITE (R57) -/

/-- A serving path takes WRITE. -/
def State.servedWrite (s : State) (ch : Chan) (bank : Bank) (column : Column) (word : Word) (lanes : Lanes) : State :=
  let g := s.chan[ch].servedGeometry
  let b := decodeBank g bank
  match s.chan[ch].bankUse b with
  | .closed => (s.drive ch (.write bank column word lanes)).countAnomaly ch Anomalies.countUnopened
  | .intrusion row =>
    if reserveAt s.chan[ch].allocation.reserve b (reserveIndex g row) = some .inUse then
      (s.drive ch (.write bank column word 0)).countAnomaly ch Anomalies.countMaskedWrite
    else s.drive ch (.write bank column word lanes)
  | .service row =>
    match s.wordLookup .service ch b row (decodeColumn g column) with
    | some place => (s.drive ch (.write bank column word lanes)).writeSpare place word lanes
    | none => s.drive ch (.write bank column word lanes)

/-! ## Device read returns (R53, R59) -/

/-- An item that waits for the devices (R50). -/
def ReturnItem.waits : ReturnItem → Bool
  | .device => true
  | .captured _ => true
  | .poison => false

/-- The oldest item of a list that waits for the devices, and the list without it. -/
def oldestWaiting : List ReturnItem → Option (ReturnItem × List ReturnItem)
  | [] => none
  | item :: rest =>
    if item.waits then some (item, rest)
    else (oldestWaiting rest).map fun found => (found.1, item :: found.2)

/-- The word an item is answered with when the devices return a word (Table 3.3). -/
def ReturnItem.answer (item : ReturnItem) (word : Word) : Word :=
  match item with
  | .device => word
  | .captured w => w
  | .poison => poisonWord

/-- Poison items at the old end are answered one after another (R59). -/
def State.flushPoison (ch : Chan) : List ReturnItem → State → State
  | .poison :: rest, s => flushPoison ch rest (s.deliver ch poisonWord)
  | rest, s => s.onPath ch fun p => { p with returns := rest }

/-- A device read return answers a waiting item, and the poison items that become the oldest are answered. -/
def State.pathReturn (s : State) (ch : Chan) (item : ReturnItem) (rest : List ReturnItem) (word : Word) : State :=
  State.flushPoison ch rest (s.deliver ch (item.answer word))

end Sys2Proof.Machine
end

