-- ==== Sys2Proof/Machine/Service.lean ====
section
/-! DEFINITION. The controller-side commands (R44, R47 to R60) and the arrival of a device read return (R42). -/

namespace Sys2Proof.Machine

/-- A controller-side command other than READ: its effect while the path serves, and otherwise it is dropped and counted
(R44, R58). -/
def State.served (s : State) (ch : Chan) (effect : State → State) : State :=
  if s.chan[ch].serving then effect s else s.heldOff ch

/-- OPEN ROW (R48, R49, R58). -/
def execOpenRow (ch : Chan) (bank : Bank) (row : Row) (s : State) : Host.Outcome State Fault Refusal :=
  .next (s.quiet.served ch fun s => s.servedOpenRow ch bank row)

/-- READ (R51, R52, R59, R60). -/
def execRead (ch : Chan) (bank : Bank) (column : Column) (s : State) : Host.Outcome State Fault Refusal :=
  .next (if s.chan[ch].serving then s.quiet.servedRead ch bank column else s.quiet.heldOffRead ch)

/-- WRITE (R57, R58). -/
def execWrite (ch : Chan) (bank : Bank) (column : Column) (word : Word) (lanes : Lanes) (s : State) :
    Host.Outcome State Fault Refusal :=
  .next (s.quiet.served ch fun s => s.servedWrite ch bank column word lanes)

/-- CLOSE BANK (R47, R56, R58). -/
def execCloseBank (ch : Chan) (bank : Bank) (s : State) : Host.Outcome State Fault Refusal :=
  .next (s.quiet.served ch fun s =>
    (s.drive ch (.closeBank bank)).track ch (decodeBank s.chan[ch].servedGeometry bank) none)

/-- CLOSE ALL (R47, R56, R58). -/
def execCloseAll (ch : Chan) (s : State) : Host.Outcome State Fault Refusal :=
  .next (s.quiet.served ch fun s => (s.drive ch .closeAll).trackClosed ch)

/-- REFRESH (R47, R56, R58). -/
def execRefresh (ch : Chan) (s : State) : Host.Outcome State Fault Refusal :=
  .next (s.quiet.served ch fun s => (s.drive ch .refresh).trackClosed ch)

/-- MODE SET (R47, R56, R58). -/
def execModeSet (ch : Chan) (register : BitVec 4) (value : BitVec 16) (s : State) : Host.Outcome State Fault Refusal :=
  .next (s.quiet.served ch fun s => s.drive ch (.modeSet register value))

/-- A read return goes to the path while an item of its list waits for the devices, otherwise to the engine if it has a
READ outstanding, and otherwise it is discarded (R42). -/
def State.readReturn (s : State) (ch : Chan) (word : Word) : State :=
  match oldestWaiting s.chan[ch].path.returns with
  | some (item, rest) => s.pathReturn ch item rest word
  | none =>
    match s.chan[ch].engine.outstanding with
    | some o => (s.engineReturn ch o word).choose
    | none => s

/-- DEVICE READ RETURN (R42). -/
def execDeviceReadReturn (ch : Chan) (word : Word) (s : State) : Host.Outcome State Fault Refusal :=
  .next (s.quiet.readReturn ch word)

end Sys2Proof.Machine
end

