-- ==== Sys2Proof/Machine/StartUp.lean ====
section
/-! DEFINITION. HEADER_CHECK and IMAGE_CHECK (R158 to R167). -/

namespace Sys2Proof.Machine

/-- The header arrives: 16 bytes, while the loader is READING and has read none (R159). -/
def State.headerArrives (s : State) (header : List Byte) : Bool :=
  s.loader.phase == .reading && s.loader.image.isEmpty && header.length == Config.headerSize

/-- The loader checks the header and goes on reading, or ends the read and the load (R159). -/
def State.checkHeader (s : State) (header : List Byte) : State :=
  match headerFailure header with
  | none => s.setLoader { s.loader with image := header }
  | some status => s.loadFailed status

/-- HEADER_CHECK (R159). -/
def execHeaderCheck (header : List Byte) (s : State) : Host.Outcome State Fault Refusal :=
  .next (if s.headerArrives header then s.quiet.checkHeader header else s.quiet)

/-- The rest of the image arrives: the loader is READING, holds a header, and now has the total length (R160). -/
def State.imageArrives (s : State) (rest : List Byte) : Bool :=
  s.loader.phase == .reading && s.loader.image.length == Config.headerSize
    && (s.loader.image ++ rest).length == imageLength s.loader.image

/-- The loader checks the whole image and applies it (R160, R162). -/
def State.checkImage (s : State) (image : List Byte) (order : List Chan) : State :=
  if wholeStatus image = .good then s.loadGood image order else s.loadFailed (wholeStatus image)

/-- IMAGE_CHECK (R160). -/
def execImageCheck (rest : List Byte) (order : List Chan) (s : State) : Host.Outcome State Fault Refusal :=
  .next (if s.imageArrives rest then s.quiet.checkImage (s.loader.image ++ rest) order else s.quiet)

end Sys2Proof.Machine
end

