-- ==== Sys2Proof/Machine/Dispatch.lean ====
section
/-! DEFINITION. The meaning of every command, one arm each. -/

namespace Sys2Proof.Machine

def exec (i : Instr) (s : State) : Host.Outcome State Fault Refusal :=
  match i with
  | .powerOnReset => Sys2Proof.Machine.execPowerOnReset s
  | .warmRestart => Sys2Proof.Machine.execWarmRestart s
  | .headerCheck header => Sys2Proof.Machine.execHeaderCheck header s
  | .imageCheck rest order => Sys2Proof.Machine.execImageCheck rest order s
  | .getStatus arg => Sys2Proof.Machine.execGetStatus arg s
  | .getResult arg => Sys2Proof.Machine.execGetResult arg s
  | .getEntry arg => Sys2Proof.Machine.execGetEntry arg s
  | .getTally arg => Sys2Proof.Machine.execGetTally arg s
  | .getReserve arg => Sys2Proof.Machine.execGetReserve arg s
  | .getCounters arg => Sys2Proof.Machine.execGetCounters arg s
  | .retest arg => Sys2Proof.Machine.execRetest arg s
  | .abort arg => Sys2Proof.Machine.execAbort arg s
  | .acknowledge arg => Sys2Proof.Machine.execAcknowledge arg s
  | .unknownCommand code arg => Sys2Proof.Machine.execUnknownCommand code arg s
  | .openRow ch bank row => Sys2Proof.Machine.execOpenRow ch bank row s
  | .read ch bank column => Sys2Proof.Machine.execRead ch bank column s
  | .write ch bank column word lanes => Sys2Proof.Machine.execWrite ch bank column word lanes s
  | .closeBank ch bank => Sys2Proof.Machine.execCloseBank ch bank s
  | .closeAll ch => Sys2Proof.Machine.execCloseAll ch s
  | .refresh ch => Sys2Proof.Machine.execRefresh ch s
  | .modeSet ch register value => Sys2Proof.Machine.execModeSet ch register value s
  | .deviceReadReturn ch word => Sys2Proof.Machine.execDeviceReadReturn ch word s
  | .prepareRun ch => Sys2Proof.Machine.execPrepareRun ch s
  | .engineWrite ch => Sys2Proof.Machine.execEngineWrite ch s
  | .engineRead ch => Sys2Proof.Machine.execEngineRead ch s
  | .holdTimerExpiry ch => Sys2Proof.Machine.execHoldTimerExpiry ch s
  | .refreshTimerExpiry ch => Sys2Proof.Machine.execRefreshTimerExpiry ch s
  | .serviceCompletion => Sys2Proof.Machine.execServiceCompletion s
  | .analysisCompletion => Sys2Proof.Machine.execAnalysisCompletion s
  | .runClockMillisecond ch => Sys2Proof.Machine.execRunClockMillisecond ch s

end Sys2Proof.Machine
end

