-- ==== Sys2Proof/Machine/Framing.lean ====
section
/-! DEFINITION. The framing of the maintenance port (R168): the address it acknowledges, the command that a write transaction
gives, and the bytes that a read transaction returns. A transaction is no row of the table; the command that it gives is one, and
joins the commands that wait (notes/assumptions/14.md). -/

namespace Sys2Proof.Machine

/-- The port acknowledges its own 7-bit address, and no other; it does so at all times, whatever the state. -/
def portAcknowledges (address : BitVec 7) : Bool := address == Config.i2cAddress

/-- The command of a code and an argument (Table 11.1); a code outside the table makes the unknown command (R169). -/
def portCommand (code arg : Byte) : Instr :=
  if code = 0x01#8 then .getStatus arg
  else if code = 0x02#8 then .getResult arg
  else if code = 0x03#8 then .getEntry arg
  else if code = 0x04#8 then .getTally arg
  else if code = 0x05#8 then .getReserve arg
  else if code = 0x06#8 then .getCounters arg
  else if code = 0x10#8 then .retest arg
  else if code = 0x11#8 then .abort arg
  else if code = 0x12#8 then .acknowledge arg
  else .unknownCommand code arg

/-- The command that the data bytes of a write transaction give: none with fewer than two bytes; those after the second are
ignored. -/
def commandOfWrite : List Byte → Option Instr
  | code :: arg :: _ => some (portCommand code arg)
  | [_] => none
  | [] => none

/-- A write transaction to an address: the command that it gives is taken after the commands that wait. -/
def State.portWrite (s : State) (address : BitVec 7) (bytes : List Byte) : State :=
  if portAcknowledges address then
    match commandOfWrite bytes with
    | some c => s.setPending (s.pending ++ [c])
    | none => s
  else s

/-- A read transaction of `n` bytes from an address: the reply that stands, from its first byte; it is not acknowledged at another
address than the port's. -/
def State.portRead (s : State) (address : BitVec 7) (n : Nat) : Option (List Byte) :=
  if portAcknowledges address then some ((List.range n).map s.replyByte) else none

end Sys2Proof.Machine
end

