-- ==== Sys2Proof/WellFormed.lean ====
section
/-! DEFINITION. Which commands the outside can give at all. Every operand that is a bus or argument field has its
width in its type; three commands carry a list or a code that needs a check. -/

namespace Sys2Proof

/-- The nine command codes of Table 11.1 (R169). -/
def maintenanceCodes : List Byte :=
  [0x01#8, 0x02#8, 0x03#8, 0x04#8, 0x05#8, 0x06#8, 0x10#8, 0x11#8, 0x12#8]

/-- A header is 16 bytes (R159); the rest of an image makes a total length of 64 to 4,096 bytes (R159) and the
order of the four channels names each once; an unknown command's code is not in Table 11.1 (R169). -/
def Instr.WellFormed : Instr → Bool
  | .headerCheck header => header.length == Config.headerSize
  | .imageCheck rest order =>
      Config.minImage ≤ rest.length + Config.headerSize && rest.length + Config.headerSize ≤ Config.maxImage
        && order.length == 4 && (List.finRange 4).all (fun ch => order.contains ch)
  | .unknownCommand code _ => !(maintenanceCodes.contains code)
  | .powerOnReset | .warmRestart | .getStatus _ | .getResult _ | .getEntry _ | .getTally _ | .getReserve _
  | .getCounters _ | .retest _ | .abort _ | .acknowledge _ | .openRow _ _ _ | .read _ _ _ | .write _ _ _ _ _
  | .closeBank _ _ | .closeAll _ | .refresh _ | .modeSet _ _ _ | .deviceReadReturn _ _ | .prepareRun _
  | .engineWrite _ | .engineRead _ | .holdTimerExpiry _ | .refreshTimerExpiry _ | .serviceCompletion
  | .analysisCompletion | .runClockMillisecond _ => true

end Sys2Proof
end

