-- ==== Sys2Proof/Safety.lean ====
section
/-! DEFINITION. What a safe run of the CJ-412 is: the laws the manual gives its lists, queues, tokens, lines, reserve rows
and life cycle, as properties of a state that every step keeps. With them, the words in which statements about the commands
are put. -/

namespace Sys2Proof.Machine

/-! ## Words for statements -/

/-- The unsigned number of the `n` bytes at `i`, least significant byte first (R170). -/
def fieldAt (bytes : List Byte) (i : Nat) : Nat → Nat
  | 0 => 0
  | n + 1 => byteAt bytes i + 256 * fieldAt bytes (i + 1) n

/-- The ten rows of the table that are maintenance writes (Table 11.1, and R169 for any other code). -/
def isMaintenance : Instr → Bool
  | .getStatus _ | .getResult _ | .getEntry _ | .getTally _ | .getReserve _ | .getCounters _ | .retest _ | .abort _
  | .acknowledge _ | .unknownCommand _ _ => true
  | .powerOnReset | .warmRestart | .headerCheck _ | .imageCheck _ _ | .openRow _ _ _ | .read _ _ _ | .write _ _ _ _ _
  | .closeBank _ _ | .closeAll _ | .refresh _ | .modeSet _ _ _ | .deviceReadReturn _ _ | .prepareRun _
  | .engineWrite _ | .engineRead _ | .holdTimerExpiry _ | .refreshTimerExpiry _ | .serviceCompletion
  | .analysisCompletion | .runClockMillisecond _ => false

/-- The command can take this channel out of SERVICE: a reset, or a RETEST of it in either spelling (R145). -/
def endsService (ch : Chan) : Instr → Bool
  | .powerOnReset | .warmRestart => true
  | .retest arg => arg.toNat == ch.val
  | .unknownCommand code arg => code == 0x10#8 && arg.toNat == ch.val
  | .headerCheck _ | .imageCheck _ _ | .getStatus _ | .getResult _ | .getEntry _ | .getTally _ | .getReserve _
  | .getCounters _ | .abort _ | .acknowledge _ | .openRow _ _ _ | .read _ _ _ | .write _ _ _ _ _
  | .closeBank _ _ | .closeAll _ | .refresh _ | .modeSet _ _ _ | .deviceReadReturn _ _ | .prepareRun _
  | .engineWrite _ | .engineRead _ | .holdTimerExpiry _ | .refreshTimerExpiry _ | .serviceCompletion
  | .analysisCompletion | .runClockMillisecond _ => false

/-- The entry is a valid entry of the channel. -/
def Entry.belongsTo (e : Entry) (ch : Chan) : Bool :=
  match e.repair? with
  | some r => r.channel == ch
  | none => false

/-- The commands that open the target row of an address in a bank record (R86): none, OPEN ROW, or CLOSE BANK and
OPEN ROW. -/
def rowCommands (banks : Vector (Option OpenRow) 8) (a : Address) (physical : Row) : List DeviceCommand :=
  match bankAt banks a.bank with
  | none => [.openRow a.bank physical]
  | some o => if o.target = a.row then [] else [.closeBank a.bank, .openRow a.bank physical]

/-- The bank record once the target row of an address is open (R86). -/
def rowsAfter (banks : Vector (Option OpenRow) 8) (a : Address) (physical : Row) : Vector (Option OpenRow) 8 :=
  match bankAt banks a.bank with
  | none => setBank banks a.bank (some ⟨a.row, physical⟩)
  | some o => if o.target = a.row then banks else setBank banks a.bank (some ⟨a.row, physical⟩)

/-- The commands of the refresh service due at step 1 of R85. -/
def refreshCommands (owed : Bool) : List DeviceCommand := if owed then [.closeAll, .refresh] else []

/-- The engine after steps 1 and 2 of R85 at an address (R86, R94). -/
def Engine.atAddress (e : Engine) (a : Address) (physical : Row) : Engine :=
  { e with
    refreshOwed := false
    banks := rowsAfter (if e.refreshOwed then allClosed else e.banks) a physical
    counters := { e.counters with
      refreshes := if e.refreshOwed then Counter.inc e.counters.refreshes else e.counters.refreshes } }

/-- The device commands of steps 1 and 2 of R85 at an address (R86, R94). -/
def Engine.commandsAt (e : Engine) (a : Address) (physical : Row) : List DeviceCommand :=
  refreshCommands e.refreshOwed ++ rowCommands (if e.refreshOwed then allClosed else e.banks) a physical

/-- The load that ends with a status other than GOOD: every channel serves untested with code IMAGE, no valid entry is
left, and nothing of the image is kept (R147, R148, R162, R167). -/
def State.LoadFails (s : State) (status : ImageStatus) (t : State) : Prop :=
  t.loader = { phase := .finished, status := status, previousCheck := s.loader.previousCheck, image := [],
               patternTable := [], policy := some .retest }
    ∧ (∀ ch : Chan, t.chan[ch] = { s.chan[ch] with
        control := { state := .service, outcome := .untested, runCount := 0, resumedCount := 0, candidate := false }
        setup := { enabled := false, settings := none, code := .image, plan := none, dropped := 0 }
        path := { s.chan[ch].path with tracker := allClosed }
        allocation := { s.chan[ch].allocation with reserve := List.replicate 8 [] }
        result := CopiedResult.reset
        pins := ⟨[], []⟩ })
    ∧ (∀ i : Fin 64, t.table[i] = if s.table[i].repair?.isSome then .free else s.table[i])
    ∧ t.spare = s.spare ∧ t.store = s.store ∧ t.arbiter = s.arbiter ∧ t.allocator = s.allocator ∧ t.reply = s.reply
    ∧ t.spiOut = [] ∧ t.pending = s.pending

/-- The values of every piece of state at power-on reset but for the spare words, which R22 leaves undefined (R18, R22, R45, R63,
R73, R81, R103, R111, R116, R123 to R125, R144, R146, R157, R158, R165, R166, R168, R171, R173, R174). The enable flag and the
settings error code are the model's (notes/assumptions/2.md), and so are the lists without reserve rows
(notes/assumptions/11.md) and the flag of the wait for a return (notes/assumptions/19.md). -/
def State.AtPowerOn (t : State) : Prop :=
  (∀ i : Fin 64, t.table[i] = .free) ∧ (∀ i : Fin 64, t.store[i] = .empty)
    ∧ (∀ ch : Chan,
        let c := t.chan[ch]
        c.control.state = .disabled ∧ c.control.outcome = .none ∧ c.control.runCount = 0 ∧ c.control.resumedCount = 0
          ∧ c.control.candidate = false ∧ c.setup.enabled = false ∧ c.setup.code = .none
          ∧ c.setup.settings = none ∧ c.setup.plan = none ∧ c.setup.dropped = 0
          ∧ c.path.tracker = Vector.replicate 8 none ∧ c.path.returns = [] ∧ c.path.anomalies = ⟨0, 0, 0, 0, 0⟩
          ∧ c.baselines = ⟨0, 0, 0, 0, 0⟩
          ∧ c.engine.state = .idle ∧ c.engine.position = 0 ∧ c.engine.pass = 0 ∧ c.engine.phase = .raw
          ∧ c.engine.generator = ⟨none, 0⟩ ∧ c.engine.passSeed = none ∧ c.engine.banks = Vector.replicate 8 none
          ∧ c.engine.outstanding = none ∧ c.engine.rawReadSweep = false ∧ c.engine.currentOp = 0
          ∧ c.engine.refreshOwed = false ∧ c.engine.awaitingReturn = false ∧ c.engine.counters = ⟨0, 0, 0, 0⟩
          ∧ c.timers.refreshMode = .stopped ∧ c.timers.refreshElapsed = 0 ∧ c.timers.hold = none
          ∧ c.timers.clockRunning = false ∧ c.timers.clock = 0 ∧ c.timers.holdClamps = 0
          ∧ c.queue.records = [] ∧ c.queue.counters = ⟨0, 0, 0⟩ ∧ c.queue.firstRaw = none ∧ c.queue.firstVerify = none
          ∧ c.allocation.tally = [] ∧ c.allocation.request = none ∧ c.allocation.exhausted = false
          ∧ c.allocation.counters = ⟨0, 0, 0, 0, 0, 0, 0, 0⟩
          ∧ (∀ (bank : Bank) (j : Nat) (st : ReserveState),
              reserveAt c.allocation.reserve bank j = some st → st = .untested)
          ∧ (∀ p : Fin 8, c.patterns[p] = .notNamed)
          ∧ c.result = ⟨0, 0, ⟨0, 0, 0, 0, 0, 0, 0, 0⟩, ⟨0, 0, 0⟩, 0, ⟨0, 0, 0, 0⟩, none, none, 0⟩
          ∧ c.pins = ⟨[], []⟩ ∧ t.ready ch = false)
    ∧ t.arbiter.budget = 2 ∧ (∀ ch : Chan, t.arbiter.holders[ch] = false ∧ t.arbiter.waiting[ch] = false)
    ∧ t.arbiter.lastGranted = 3 ∧ t.allocator.item = .idle ∧ t.allocator.lastServed = 3
    ∧ t.loader.phase = .reading ∧ t.loader.status = .none ∧ t.loader.previousCheck = none ∧ t.loader.image = []
    ∧ t.loader.patternTable = [] ∧ t.loader.policy = none ∧ t.reply = [] ∧ t.attention = false ∧ t.flashSelected = true
    ∧ t.spiOut = [0x03#8, 0x00#8, 0x00#8, 0x00#8]

/-! ## Words for the settings image -/

/-- A channel's settings are those of its section of an image, decoded by Table 10.3 and clamped by Table 10.5 (R8, R108, R161,
R164). -/
def SettingsDecoded (image : List Byte) (ch : Chan) (st : Settings) : Prop :=
  let byte := fun n => byteAt image (16 + 48 * ch.val + n)
  let pair := fun n => byte n + 256 * byte (n + 1)
  let keeps := fun recorded n : Nat =>
    n < byte 2 ∧ recorded.testBit n = true ∧ ((List.range n).filter recorded.testBit).length < 3
  st.geometry = ⟨byte 0, byte 1, byte 2, byte 3⟩
    ∧ st.sweepOrder = (if byte 4 = 0 then .columnFast else .rowFast)
    ∧ st.scope = (if byte 5 = 0 then .exact else if byte 5 = 1 then .spanA else .spanB)
    ∧ (∀ n : Nat, n < 10 →
        (st.maskA.getLsbD n = true ↔ keeps (pair 6) n) ∧ (st.maskB.getLsbD n = true ↔ keeps (pair 8) n))
    ∧ st.threshold = (if byte 10 < 2 then 2 else if 8 < byte 10 then 8 else byte 10)
    ∧ st.refreshInterval = (if pair 11 < 10 then 10 else pair 11)
    ∧ st.retentionLimit = (if pair 13 = 0 then 1 else if 4095 < pair 13 then 4095 else pair 13)
    ∧ st.programStart = byte 15
    ∧ st.modeSets.length = (if 8 < byte 16 then 8 else byte 16)
    ∧ ∀ (j : Nat) (m : ModeSet), st.modeSets[j]? = some m →
        m.register.toNat = byte (17 + 3 * j) % 16 ∧ m.value.toNat = pair (18 + 3 * j)

/-- An element is the program record at a place of an image, decoded by Table 10.4 and clamped by R67 and R70 (R64, R161). -/
def ElementDecoded (image : List Byte) (place : Nat) (e : Element) : Prop :=
  let byte := fun n => byteAt image (place + n)
  let pair := fun n => byte n + 256 * byte (n + 1)
  let slot := fun code => if code = 0 then none
    else [Op.readTrue, Op.readInverse, Op.writeTrue, Op.writeInverse][code - 1]?
  let kinds := [BackgroundKind.solid, .checker, .rowStripe, .columnStripe, .laneWalk, .stored, .random]
  (∀ background : BackgroundKind, byte 0 = 0 → kinds[byte 7]? = some background → ∃ m : March, e = .march m
      ∧ m.direction = (if (byte 1).testBit 0 then .down else .up) ∧ m.joined = (byte 1).testBit 1
      ∧ m.rotation = byte 2 ∧ m.slots = [slot (byte 3), slot (byte 4), slot (byte 5), slot (byte 6)]
      ∧ m.background = background ∧ m.seed.toNat = (if pair 8 = 0 then 1 else pair 8) ∧ m.pattern.val = byte 10 % 8)
    ∧ (byte 0 = 0 → 6 < byte 7 → e = .outside)
    ∧ (byte 0 = 1 → e = .hold (if pair 1 % 4096 = 0 then 1 else pair 1 % 4096) (if byte 3 = 0 then .keep else .stop))
    ∧ (byte 0 = 2 → e = .repeated (byte 1 % 16) (byte 2 % 128))
    ∧ (byte 0 = 3 → e = .analyse) ∧ (byte 0 = 4 → e = .finish) ∧ (4 < byte 0 → e = .outside)

/-- A pattern table is that of an image, word by word and lane by lane (R161, R162). -/
def PatternsDecoded (image : List Byte) (patterns : List Line) : Prop :=
  patterns.length = byteAt image 9
    ∧ ∀ (p : Nat) (words : Line), patterns[p]? = some words → ∀ (w : Fin 8) (n : Nat), n < 72 →
        words[w].getLsbD n =
          (byteAt image (208 + 12 * byteAt image 8 + 72 * p + 9 * w.val + n / 8)).testBit (n % 8)

/-- A list of carried records is that of an image, first to last (R161). -/
def CarriedDecoded (image : List Byte) (records : List CarriedRecord) : Prop :=
  records.length = byteAt image 10
    ∧ ∀ (n : Nat) (k : CarriedRecord), records[n]? = some k →
        let byte := fun j => byteAt image (208 + 12 * byteAt image 8 + 72 * byteAt image 9 + 8 * n + j)
        k.channel.val = byte 0 % 4 ∧ k.kind = byte 1 ∧ k.bank = byte 2 ∧ k.row = byte 3 + 256 * byte 4
          ∧ k.column = byte 5 + 256 * byte 6 ∧ k.last = byte 7

/-- What the loader does as it takes one carried record, `resumes` being the channels that resume: the record is skipped,
dropped and counted by the first of the reasons 1 to 7, or created (R5, R7, R38, R166). A state that holds no settings for a
channel that is to be tested is out of every run's reach and not spoken of. -/
def State.TakesCarried (resumes : Chan → Bool) (s : State) (k : CarriedRecord) (t : State) : Prop :=
  let ch := k.channel
  let c := s.chan[ch]
  let bank : Bank := BitVec.ofNat 3 k.bank
  let row : Row := BitVec.ofNat 16 k.row
  let column : Column := BitVec.ofNat 10 k.column
  let dropped := s.onSetup ch fun u => { u with dropped := Counter.inc u.dropped }
  let inRow := fun e : Repair =>
    (∃ i : Fin 64, s.table[i].repair? = some e) ∧ e.channel = ch ∧ e.bank = bank ∧ e.row = row
  let full := ∀ i : Fin 64, s.table[i] ≠ .free
  let lowest := fun i : Fin 64 => s.table[i] = .free ∧ ∀ j : Fin 64, j < i → s.table[j] ≠ .free
  let created := fun (i : Fin 64) (kind : RepairKind) =>
    s.setEntry i (.tentative { channel := ch, origin := .carried, bank := bank, row := row, kind := kind })
  (resumes ch = true → t = s)
    ∧ (resumes ch = false → (c.setup.enabled = false ∨ c.setup.code ≠ .none) → t = dropped)
    ∧ ∀ st : Settings, resumes ch = false → c.setup.enabled = true → c.setup.code = .none →
        c.setup.settings = some st →
        let g := st.geometry
        let placed := k.bank < 2 ^ g.b ∧ k.row < 2 ^ g.r - g.q
        ((¬ placed ∨ 1 < k.kind) → t = dropped)
          ∧ (k.kind = 0 → (2 ^ g.c ≤ k.column ∨ 2 < k.last) → t = dropped)
          ∧ (k.kind = 1 → g.q ≤ k.last → t = dropped)
          ∧ (∀ scope : Scope, k.kind = 0 → placed → k.column < 2 ^ g.c →
              [Scope.exact, .spanA, .spanB][k.last]? = some scope →
              let mask := match scope with
                | .exact => 0
                | .spanA => st.maskA
                | .spanB => st.maskB
              let barred := ∃ e : Repair, inRow e ∧ ((∃ reserve : Nat, e.kind = .remap reserve)
                ∨ ∃ base : Column, e.kind = .substitute base scope ∧ ∀ n : Nat, n < g.c →
                    mask.getLsbD n = false → base.getLsbD n = column.getLsbD n)
              (barred ∨ full → t = dropped)
                ∧ ∀ i : Fin 64, ¬ barred → lowest i →
                    t = (created i (.substitute (column &&& ~~~mask) scope)).setLine i (Vector.replicate 8 0))
          ∧ (k.kind = 1 → placed → k.last < g.q →
              let barred := (∃ e : Repair, inRow e) ∨ reserveAt c.allocation.reserve bank k.last = some .inUse
              (barred ∨ full → t = dropped)
                ∧ ∀ i : Fin 64, ¬ barred → lowest i →
                    t = (created i (.remap k.last)).onAllocation ch fun a =>
                      { a with reserve := setReserve a.reserve bank k.last .inUse })

/-- How the state after a GOOD load comes from the carried records of its image, `resumes` being the channels that resume: `u` is
the state in which the decisions are made and no record is taken yet (R125, R148, R165, R166), and every record is taken from
there in image order. A channel that starts its run may then have lines lent (R19). The lists of an untested channel and of one
without geometry are the model's (notes/assumptions/11.md). -/
def State.CarriesOver (s u t : State) (image : List Byte) (resumes : Chan → Bool) : Prop :=
  let v := (carriedOf image).foldl (State.loadCarried resumes) u
  u.spare = s.spare
    ∧ (∀ i : Fin 64, u.table[i] = match s.table[i].repair? with
        | some r => if resumes r.channel then s.table[i] else .free
        | none => s.table[i])
    ∧ (∀ ch : Chan, u.chan[ch].setup = { t.chan[ch].setup with dropped := 0 }
        ∧ u.chan[ch].allocation.reserve =
          if resumes ch then s.chan[ch].allocation.reserve
          else match t.chan[ch].setup.settings with
            | some st => List.replicate (2 ^ st.geometry.b)
                (List.replicate (if t.chan[ch].setup.code = .none then st.geometry.q else 0) .untested)
            | none => List.replicate 8 [])
    ∧ (∀ ch : Chan, t.chan[ch].setup.dropped = v.chan[ch].setup.dropped
        ∧ t.chan[ch].allocation.reserve = v.chan[ch].allocation.reserve)
    ∧ ∀ i : Fin 64, t.table[i] = v.table[i] ∧ t.spare[i] = v.spare[i]
        ∨ v.table[i] = .free ∧ ∃ p : Fin 8, i.val = 56 + p.val ∧ t.table[i] = .lent p

/-! ## Words for programs -/

/-- A refusal reason of Table 4.2 applies at the record of index `j` of the program that starts at `start` (R71). -/
def RefusedAt (store : Vector Element 64) (start j : Nat) (reason : SettingsError) : Prop :=
  let e := elementAt store j
  reason = .badKind ∧ (e = .empty ∨ e = .outside)
    ∨ reason = .emptyMarch ∧ (∃ m : March, e = .march m ∧ m.ops = [])
    ∨ reason = .secondAnalyse ∧ e = .analyse ∧ (∃ i : Nat, start ≤ i ∧ i < j ∧ elementAt store i = .analyse)
    ∨ reason = .spanBeforeStart ∧ (∃ n k : Nat, e = .repeated n k ∧ 1 ≤ n ∧ 1 ≤ k ∧ j < start + n)
    ∨ reason = .spanContent ∧ ∃ n k : Nat, e = .repeated n k ∧ 1 ≤ n ∧ 1 ≤ k ∧ start + n ≤ j
        ∧ ∃ i : Nat, j ≤ i + n ∧ i < j ∧ (elementAt store i = .analyse ∨ ∃ n' k', elementAt store i = .repeated n' k')

/-- Validation reads on past the record of index `j`: it is no END and no refusal applies at it (R71). -/
def ReadsOn (store : Vector Element 64) (start j : Nat) : Prop :=
  elementAt store j ≠ .finish ∧ ∀ reason : SettingsError, ¬ RefusedAt store start j reason

/-- The element is a MARCH with its joined flag set. -/
def Element.asksJoin : Element → Bool
  | .march m => m.joined
  | .empty | .outside | .hold _ _ | .repeated _ _ | .analyse | .finish => false

/-- The MARCH element at `j` goes on into the one at `j + 1` in its chain: its joined flag is set and R74's five conditions hold
for the chain's part that ends at it. -/
def JoinHolds (store : Vector Element 64) (spans : List RepeatSpan) (finish : Nat) (chain : List Nat) (j : Nat) : Prop :=
  ∃ m n : March, elementAt store j = .march m ∧ m.joined = true ∧ j + 1 ≤ finish ∧ elementAt store (j + 1) = .march n
    ∧ n.background = m.background ∧ (m.background = .random → n.seed = m.seed)
    ∧ (m.background = .stored → n.pattern = m.pattern) ∧ spanOf spans (j + 1) = spanOf spans j
    ∧ (chainOps store (chain.filter fun i => decide (i ≤ j))).length + n.ops.length ≤ 8

/-- A plan is the one Table 4.3 gives the program from `start` to its END at `finish`, but for its chains and the joins ignored
(R18, R73, R77). -/
def PlanDescribes (store : Vector Element 64) (start finish : Nat) (plan : Plan) : Prop :=
  let onPath := fun j : Nat => start ≤ j ∧ j ≤ finish
  (plan.path.map (·.1)).Pairwise (· < ·)
    ∧ (∀ (j : Nat) (kind : ElementKind), (j, kind) ∈ plan.path ↔ onPath j ∧ (elementAt store j).kind = some kind)
    ∧ (∀ j : Nat, plan.phaseBoundary = some j ↔ onPath j ∧ elementAt store j = .analyse
        ∧ ∀ i : Nat, onPath i → i < j → elementAt store i ≠ .analyse)
    ∧ (plan.spans.map (·.index)).Pairwise (· < ·)
    ∧ (∀ sp : RepeatSpan, sp ∈ plan.spans ↔ onPath sp.index ∧ 1 ≤ sp.count
        ∧ ∃ n : Nat, 1 ≤ n ∧ elementAt store sp.index = .repeated n sp.count ∧ sp.first = sp.index - n)
    ∧ (∀ j : Nat, spanOf plan.spans j = none ↔ ∀ sp ∈ plan.spans, ¬ (sp.first ≤ j ∧ j < sp.index))
    ∧ (∀ j index : Nat, spanOf plan.spans j = some index →
        ∃ sp ∈ plan.spans, sp.index = index ∧ sp.first ≤ j ∧ j < sp.index)
    ∧ ∀ p : Fin 8, p ∈ plan.patterns ↔ ∃ (j : Nat) (m : March), onPath j ∧ elementAt store j = .march m
        ∧ m.background = .stored ∧ m.pattern = p

/-! ## The laws -/

/-- The law of the read return list: it holds at most 32 items, and a poison item is never left the oldest
(R50, R53, R59). -/
def State.ReturnListLaw (s : State) : Prop :=
  ∀ ch : Chan, s.chan[ch].path.returns.length ≤ 32 ∧ s.chan[ch].path.returns.head? ≠ some .poison

/-- The law of the Fail Queue: it holds at most 16 records, each with a repeat count of 1 to 255 and a failing-bit set that
is not empty; while a READ that will be compared is outstanding it holds at most 15 (R89, R115, R116). -/
def State.FailQueueLaw (s : State) : Prop :=
  ∀ ch : Chan, s.chan[ch].queue.records.length ≤ 16
    ∧ (s.chan[ch].engine.reading = true → s.chan[ch].queue.records.length ≤ 15)
    ∧ ∀ f ∈ s.chan[ch].queue.records, 1 ≤ f.repeats.toNat ∧ f.repeats.toNat ≤ 255 ∧ f.failing ≠ 0

/-- The law of the tally: at most 8 rows, no bank and row twice, each count 0 to 15 (R132). -/
def State.TallyLaw (s : State) : Prop :=
  ∀ ch : Chan, s.chan[ch].allocation.tally.length ≤ 8
    ∧ (s.chan[ch].allocation.tally.map fun t => (t.bank, t.row)).Nodup
    ∧ ∀ t ∈ s.chan[ch].allocation.tally, t.count.toNat ≤ 15

/-- Until the loader is FINISHED a channel is in DISABLED, or in FAILED where it is held over (R146, R157). -/
def State.WaitsForLoader (s : State) : Prop :=
  s.loader.phase ≠ .finished →
    ∀ ch : Chan, s.chan[ch].control.state = .disabled ∨ s.chan[ch].control.state = .failed

/-- The law of the pattern lines: a LENT entry is entry 56 + p, and some channel whose program names p is in PREPARING,
TESTING, ANALYSING or VERIFYING (R1, R2, R21). -/
def State.PatternLineLaw (s : State) : Prop :=
  s.WaitsForLoader
    ∧ ∀ i : Fin 64, ∀ p : Fin 8, s.table[i] = .lent p →
        i.val = 56 + p.val ∧ ∃ ch : Chan, s.chan[ch].control.state.running = true ∧ s.chan[ch].names p = true

/-- The entry is a valid REMAP of a channel that holds a reserve row of a bank. -/
def Entry.holdsReserve (e : Entry) (ch : Chan) (bank : Bank) (reserve : Nat) : Bool :=
  match e.repair? with
  | some r => r.holdsReserve ch bank reserve
  | none => false

/-- The law of the reserve rows: a reserve row is IN_USE exactly while a valid REMAP of its channel and bank holds it, and
no two hold one (R134). -/
def State.ReserveRowLaw (s : State) : Prop :=
  ∀ (ch : Chan) (bank : Bank) (reserve : Nat),
    (reserveAt s.chan[ch].allocation.reserve bank reserve = some .inUse ↔
      ∃ i : Fin 64, s.table[i].holdsReserve ch bank reserve = true)
    ∧ ∀ i j : Fin 64, s.table[i].holdsReserve ch bank reserve = true →
        s.table[j].holdsReserve ch bank reserve = true → i = j

/-- An idle allocator has no work before it: it chooses whenever it is idle and a channel has work (R126). -/
def State.ChoiceLaw (s : State) : Prop :=
  s.allocator.item = .idle → ∀ ch : Chan, s.chan[ch].hasWork = false

/-- The channel's run has been started and has not ended. -/
def ChannelState.started : ChannelState → Bool
  | .testing | .analysing | .verifying => true
  | .disabled | .preparing | .service | .failed => false

/-- The engine is in one of the states from WAIT_TOKEN to DRAIN. -/
def EngineState.active : EngineState → Bool
  | .waitToken | .sweep | .stall | .hold | .drain => true
  | .idle | .done => false

/-- The law of one channel's run (R80, R91, R96, R97, R126, R146). -/
def State.ChannelRunLaw (s : State) (ch : Chan) : Prop :=
  let c := s.chan[ch]
  (c.engine.state.active = true → c.control.state.started = true)
    ∧ (c.engine.reading = true → c.engine.state = .sweep)
    ∧ (c.queue.records ≠ [] → c.control.state.started = true)
    ∧ (∀ f ∈ c.queue.records, f.channel = ch)
    ∧ (c.allocation.request ≠ none → c.engine.state = .drain ∧ c.queue.records = [])
    ∧ (s.allocator.item.serves ch = true → c.control.state.started = true)
    ∧ (s.allocator.item.analyses ch = true →
        c.engine.state = .drain ∧ c.queue.records = [] ∧ c.allocation.request = none)
    ∧ (s.loader.phase = .finished → c.control.candidate = false)

/-- The element at the position is a MARCH. -/
def Element.isMarch : Element → Bool
  | .march _ => true
  | .empty | .outside | .hold _ _ | .repeated _ _ | .analyse | .finish => false

/-- The law of the activity budget: K is 1 to 4, at most K tokens are held, a token is held only in SWEEP or STALL and
asked for only in WAIT_TOKEN, and none waits while fewer than K are held (R80, R111, R113). -/
def State.BudgetLaw (s : State) : Prop :=
  1 ≤ s.arbiter.budget ∧ s.arbiter.budget ≤ 4 ∧ s.arbiter.held ≤ s.arbiter.budget
    ∧ (∀ ch : Chan, s.arbiter.holders[ch] = true →
        s.chan[ch].engine.state = .sweep ∨ s.chan[ch].engine.state = .stall)
    ∧ (∀ ch : Chan, s.arbiter.waiting[ch] = true → s.chan[ch].engine.state = .waitToken)
    ∧ (∀ ch : Chan, s.chan[ch].engine.state = .waitToken →
        (elementAt s.store s.chan[ch].engine.position).isMarch = true)
    ∧ (s.arbiter.held = s.arbiter.budget → s.arbiter.holders[s.arbiter.lastGranted] = true)
    ∧ ∀ ch : Chan, s.arbiter.waiting[ch] = true → s.arbiter.held = s.arbiter.budget

/-- A channel in SERVICE has no TENTATIVE entries, a channel in DISABLED has no valid entries, and a channel held over for
resumption has none but ACTIVE ones (R23, R156). -/
def State.EntryStateLaw (s : State) : Prop :=
  ∀ i : Fin 64, match s.table[i] with
    | .tentative r => s.chan[r.channel].control.state ≠ .service ∧ s.chan[r.channel].control.state ≠ .disabled
        ∧ s.chan[r.channel].control.candidate = false
    | .active r => s.chan[r.channel].control.state ≠ .disabled
    | .free => True
    | .lent _ => True

/-- The law of a run as a whole. -/
def State.RunLaw (s : State) : Prop :=
  s.WaitsForLoader ∧ (∀ ch : Chan, s.ChannelRunLaw ch) ∧ s.BudgetLaw ∧ s.EntryStateLaw

end Sys2Proof.Machine
end

