-- ==== Sys2Proof/Certificates/Slice0/Obligations.lean ====
section
/-! DEFINITION. The statements put to the provers. Each docstring names the rules of spec/ that the statement follows, or says
that a choice of the model's is stated and names its log entry. Three choices run through them: a channel's `pins` and the
loader's `spiOut` hold what the step just taken drove (notes/assumptions/8.md); an allocator that becomes idle or gets work
chooses within the same step, and a channel that is ready to prepare goes on within it (notes/assumptions/9.md). -/

open Sys2Proof Sys2Proof.Machine

/-! ## The queue of commands and the resets -/

/-- The command at the front of the queue is the one that runs, with the rest left waiting (the model's queue of commands,
notes/assumptions/8.md). With no command waiting, the buses are idle and a tenth of a microsecond passes on the refresh and hold
timers that run, neither going beyond its period; nothing else changes (the model's choice, notes/assumptions/4.md). -/
def Obligations.StepRunsFrontCommand : Prop :=
  (∀ (c : Instr) (s : State) (rest : List Instr), s.pending = c :: rest → step s = exec c (s.setPending rest))
  ∧ ∀ s : State, s.pending = [] →
      step s = .next (s.quiet.mapChan fun _ c => { c with timers := { c.timers with
        refreshElapsed :=
          let interval := match c.setup.settings with
            | some st => st.refreshInterval
            | none => 0
          if c.timers.refreshMode = .running ∧ c.timers.refreshElapsed < interval then c.timers.refreshElapsed + 1
          else c.timers.refreshElapsed
        hold := match c.timers.hold with
          | some h => some (if h.elapsed < h.duration * 10000 then { h with elapsed := h.elapsed + 1 } else h)
          | none => none } })

/-- No command stops the machine: each has a next state from every state (the model's choice,
notes/assumptions/1.md, for events that cannot come about). -/
def Obligations.EveryCommandCompletes : Prop := ∀ (c : Instr) (s : State), ∃ t : State, exec c s = .next t

/-- Power-on reset gives every piece of state its power-on value, whatever stood before, but for the spare words, which the manual
leaves undefined; the enable flags, the settings error codes, the lists without reserve rows and the flag of the wait for a
return have the model's values (notes/assumptions/2.md, notes/assumptions/11.md, notes/assumptions/19.md)
(R18, R22, R45, R63, R73, R81, R103, R111, R116, R125, R144, R146, R157, R168, R171, R173, R174). -/
def Obligations.PowerOnResetValues : Prop :=
  State.reset.AtPowerOn ∧ State.reset.pending = []
    ∧ ∀ s : State, ∃ t : State, exec .powerOnReset s = .next t ∧ t.AtPowerOn ∧ t.pending = s.pending

/-- Warm restart holds over the channels in SERVICE with outcome PASS or REPAIRED, with their entries, lines, reserve rows,
counts and results, and sets everything else as power-on reset does but for the previous check value. The model's choices are the
values that the manual does not give (notes/assumptions/2.md), the empty Reserve Row Lists of the other channels
(notes/assumptions/11.md) and the clear flag of the wait for a return (notes/assumptions/19.md) (R23, R125, R146, R157, R171). -/
def Obligations.WarmRestartHoldsOverCandidates : Prop :=
  ∀ s : State, ∃ t : State, exec .warmRestart s = .next t
    ∧ (∀ ch : Chan, s.chan[ch].isCandidate = true →
        t.chan[ch] = { Channel.reset with
          control := { s.chan[ch].control with state := .failed, candidate := true }
          allocation := { ChannelAllocation.reset with reserve := s.chan[ch].allocation.reserve }
          result := s.chan[ch].result })
    ∧ (∀ ch : Chan, s.chan[ch].isCandidate = false → t.chan[ch] = Channel.reset)
    ∧ (∀ i : Fin 64, ∀ r : Repair, s.table[i].repair? = some r → s.chan[r.channel].isCandidate = true →
        t.table[i] = s.table[i] ∧ t.spare[i] = s.spare[i])
    ∧ (∀ i : Fin 64, (∀ r : Repair, s.table[i].repair? = some r → s.chan[r.channel].isCandidate = false) →
        t.table[i] = .free)
    ∧ (∀ i : Fin 64, t.store[i] = .empty) ∧ t.arbiter = Arbiter.reset ∧ t.allocator = Allocator.reset
    ∧ t.loader = Loader.reset s.loader.previousCheck ∧ t.reply = []
    ∧ t.spiOut = [0x03#8, 0x00#8, 0x00#8, 0x00#8] ∧ t.pending = s.pending

/-! ## Start-up -/

/-- A header that passes its three checks is kept and the read goes on; one that fails ends the load with the status of the
first check that fails (R147, R159, R162, R167). What the manual leaves open of a load that is not GOOD is the model's
(notes/assumptions/2.md, notes/assumptions/11.md). -/
def Obligations.HeaderCheckKeepsOrEndsLoad : Prop :=
  ∀ (header : List Byte) (s : State),
    s.loader.phase = .reading → s.loader.image = [] → header.length = 16 →
    let identified := byteAt header 0 = 0x43 ∧ byteAt header 1 = 0x4A
    let length := number16 header 4
    (identified → byteAt header 2 = 1 → 64 ≤ length → length ≤ 4096 →
        exec (.headerCheck header) s = .next (s.quiet.setLoader { s.loader with image := header }))
    ∧ (¬ identified → ∃ t : State, exec (.headerCheck header) s = .next t ∧ s.LoadFails .absent t)
    ∧ (identified → byteAt header 2 ≠ 1 →
        ∃ t : State, exec (.headerCheck header) s = .next t ∧ s.LoadFails .unsupported t)
    ∧ (identified → byteAt header 2 = 1 → (length < 64 ∨ 4096 < length) →
        ∃ t : State, exec (.headerCheck header) s = .next t ∧ s.LoadFails .damaged t)

/-- A whole image whose CRC-32 is not its check value, or whose section counts are out of range or do not make its total
length, ends the load as DAMAGED; the CRC-32 is the reflected one of polynomial 04C11DB7h (R147, R160, R162, R167). What the
manual leaves open of a load that is not GOOD is the model's (notes/assumptions/2.md, notes/assumptions/11.md). -/
def Obligations.DamagedImageEndsLoad : Prop :=
  (∀ bytes : List Byte, crc32 bytes = ~~~(bytes.foldl (fun c b =>
      (List.range 8).foldl (fun c _ => if c.getLsbD 0 then (c >>> 1) ^^^ 0xEDB88320#32 else c >>> 1)
        (c ^^^ b.setWidth 32)) 0xFFFFFFFF#32))
  ∧ crc32 [0x31#8, 0x32#8, 0x33#8, 0x34#8, 0x35#8, 0x36#8, 0x37#8, 0x38#8, 0x39#8] = 0xCBF43926#32
  ∧ ∀ (rest : List Byte) (order : List Chan) (s : State),
    let image := s.loader.image ++ rest
    let length := number16 image 4
    s.loader.phase = .reading → s.loader.image.length = 16 → image.length = length →
    (crc32 (image.take (length - 4)) ≠ BitVec.ofNat 32 (number32 image (length - 4))
      ∨ 64 < byteAt image 8 ∨ 8 < byteAt image 9 ∨ 64 < byteAt image 10
      ∨ length ≠ 16 + 192 + 12 * byteAt image 8 + 72 * byteAt image 9 + 8 * byteAt image 10 + 4) →
    ∃ t : State, exec (.imageCheck rest order) s = .next t ∧ s.LoadFails .damaged t

/-- A GOOD image sets the budget, the Program Store, the pattern table and each channel's settings, decoded and clamped as the
tables give, and keeps its check value. The carried records are taken one after another, each skipped, dropped and counted, or
created; and each channel is placed as disabled, untested, to be tested or resuming. That a channel's settings are in force
exactly when check 1 passes, for a channel that is not enabled too, is the model's choice (notes/assumptions/10.md), and so are
the Reserve Row Lists of a channel without reserve rows (notes/assumptions/11.md)
(R7, R8, R67, R70, R73, R108, R111, R147, R148, R160 to R167). -/
def Obligations.GoodImageIsAppliedAndChannelsPlaced : Prop :=
  (∀ image : List Byte,
    (∀ ch : Chan, SettingsDecoded image ch (settingsOf image ch)
        ∧ recordedGeometry image ch = (settingsOf image ch).geometry
        ∧ recordedStart image ch = (settingsOf image ch).programStart)
      ∧ (∀ i : Fin 64, if i.val < byteAt image 8 then ElementDecoded image (208 + 12 * i.val) (storeOf image)[i]
          else (storeOf image)[i] = .empty)
      ∧ PatternsDecoded image (patternsOf image) ∧ CarriedDecoded image (carriedOf image))
  ∧ (∀ g : Geometry, g.inRange = true ↔ g.b ≤ 3 ∧ 10 ≤ g.r ∧ g.r ≤ 16 ∧ 4 ≤ g.c ∧ g.c ≤ 10 ∧ g.q ≤ 32)
  ∧ (∀ (resumes : Chan → Bool) (s : State) (k : CarriedRecord),
      s.TakesCarried resumes k (State.loadCarried resumes s k))
  ∧ ∀ (rest : List Byte) (order : List Chan) (s : State),
    let image := s.loader.image ++ rest
    let length := number16 image 4
    let check := BitVec.ofNat 32 (number32 image (length - 4))
    s.loader.phase = .reading → s.loader.image.length = 16 → image.length = length →
    crc32 (image.take (length - 4)) = check →
    byteAt image 8 ≤ 64 → byteAt image 9 ≤ 8 → byteAt image 10 ≤ 64 →
    length = 16 + 192 + 12 * byteAt image 8 + 72 * byteAt image 9 + 8 * byteAt image 10 + 4 →
    (∀ ch : Chan, s.chan[ch].path.returns = []) →
    ∃ (t u : State) (resumes : Chan → Bool), exec (.imageCheck rest order) s = .next t
      ∧ s.CarriesOver u t image resumes
      ∧ t.loader = { phase := .finished, status := .good, previousCheck := some check, image := [],
                     patternTable := patternsOf image,
                     policy := some (if byteAt image 6 = 1 then .keep else .retest) }
      ∧ t.arbiter.budget = (if byteAt image 7 < 1 then 1 else if 4 < byteAt image 7 then 4 else byteAt image 7)
      ∧ t.store = storeOf image
      ∧ t.reply = s.reply ∧ t.spiOut = [] ∧ t.pending = s.pending
      ∧ ∀ ch : Chan,
        let enabled := (byteAt image 3).testBit ch.val
        let code :=
          if enabled = false then SettingsError.none
          else if (recordedGeometry image ch).inRange = false then .geometry
          else if 63 < recordedStart image ch then .programStart
          else match validate (storeOf image) (recordedStart image ch) with
            | .error reason => reason
            | .ok _ => .none
        (resumes ch = true ↔ s.chan[ch].control.candidate = true ∧ byteAt image 6 = 1
          ∧ s.loader.previousCheck = some check ∧ enabled = true ∧ code = .none)
          ∧ t.chan[ch].setup.enabled = enabled ∧ t.chan[ch].setup.code = code
          ∧ t.chan[ch].setup.settings =
              (if (recordedGeometry image ch).inRange then some (settingsOf image ch) else none)
          ∧ t.chan[ch].setup.plan = (match validate (storeOf image) (recordedStart image ch) with
              | .ok finish => if enabled = true ∧ code = .none
                  then some (buildPlan (storeOf image) (recordedStart image ch) finish) else none
              | .error _ => none)
          ∧ t.chan[ch].path.anomalies = s.chan[ch].path.anomalies ∧ t.chan[ch].path.returns = []
          ∧ (enabled = false →
              t.chan[ch].control = Control.reset ∧ ∀ i : Fin 64, t.table[i].belongsTo ch = false)
          ∧ (code ≠ .none →
              t.chan[ch].control = { Control.reset with state := .service, outcome := .untested }
                ∧ ∀ i : Fin 64, t.table[i].belongsTo ch = false)
          ∧ (enabled = true → code = .none → resumes ch = false →
              (t.chan[ch].control.state = .testing ∨ t.chan[ch].control.state = .analysing)
                ∧ t.chan[ch].control.outcome = .none ∧ t.chan[ch].control.runCount = 1
                ∧ t.chan[ch].control.resumedCount = 0
                ∧ ∀ i : Fin 64, t.table[i].belongsTo ch = true →
                    ∃ r : Repair, t.table[i] = .tentative r ∧ r.origin = .carried)
          ∧ (resumes ch = true →
              t.chan[ch].control = { s.chan[ch].control with
                  state := .service, candidate := false,
                  resumedCount := Counter.inc s.chan[ch].control.resumedCount }
                ∧ t.chan[ch].path.tracker = allClosed ∧ t.chan[ch].pins = ⟨[], []⟩
                ∧ t.chan[ch].result = s.chan[ch].result
                ∧ t.chan[ch].allocation.reserve = s.chan[ch].allocation.reserve
                ∧ ∀ i : Fin 64, (s.table[i].belongsTo ch = true ∨ t.table[i].belongsTo ch = true) →
                    t.table[i] = s.table[i] ∧ t.spare[i] = s.spare[i])

/-! ## Maintenance commands -/

/-- Until the loader is FINISHED every maintenance command is answered STARTING and has no other effect. In every state the port
acknowledges the address 35h alone: the first two bytes of a write to it give a command, by the codes of Table 11.1, which joins
the commands that wait (notes/assumptions/14.md); the bytes after them are ignored, and a shorter write gives none. A read from
it returns the reply from its first byte, and FFh past its end (R168, R169). -/
def Obligations.CommandsDuringStartUpAnswerStarting : Prop :=
  (∀ (c : Instr) (s : State), isMaintenance c = true → s.loader.phase ≠ .finished →
    exec c s = .next (s.quiet.setReply [0x05#8]))
  ∧ (∀ address : BitVec 7, portAcknowledges address = true ↔ address = 0x35#7)
  ∧ (∀ s : State,
      (∀ (code arg : Byte) (further : List Byte),
          s.portWrite 0x35#7 (code :: arg :: further) = s.setPending (s.pending ++ [portCommand code arg]))
        ∧ (∀ bytes : List Byte, bytes.length < 2 → s.portWrite 0x35#7 bytes = s)
        ∧ (∀ n : Nat, ∃ reply : List Byte, s.portRead 0x35#7 n = some reply ∧ reply.length = n
            ∧ ∀ i : Nat, i < n → reply[i]? = some (if h : i < s.reply.length then s.reply[i] else 0xFF#8))
        ∧ ∀ address : BitVec 7, address ≠ 0x35#7 →
            (∀ bytes : List Byte, s.portWrite address bytes = s) ∧ ∀ n : Nat, s.portRead address n = none)
  ∧ ∀ arg : Byte,
      [0x01#8, 0x02#8, 0x03#8, 0x04#8, 0x05#8, 0x06#8, 0x10#8, 0x11#8, 0x12#8].map (fun code => portCommand code arg) =
          [.getStatus arg, .getResult arg, .getEntry arg, .getTally arg, .getReserve arg, .getCounters arg, .retest arg,
           .abort arg, .acknowledge arg]
        ∧ ∀ code : Byte, (Instr.unknownCommand code arg).WellFormed = true →
            portCommand code arg = .unknownCommand code arg

/-- A code outside Table 11.1, a channel above 3, an entry index above 63 and a bank not below B are answered BAD_ARGUMENT
and have no other effect (R169). -/
def Obligations.BadArgumentsAreRefused : Prop :=
  ∀ (arg : Byte) (s : State), s.loader.phase = .finished →
    (∀ code : Byte, (Instr.unknownCommand code arg).WellFormed = true →
        exec (.unknownCommand code arg) s = .next (s.quiet.setReply [0x03#8]))
    ∧ (∀ c ∈ [Instr.getResult arg, Instr.getTally arg, Instr.getCounters arg, Instr.retest arg, Instr.abort arg],
        3 < arg.toNat → exec c s = .next (s.quiet.setReply [0x03#8]))
    ∧ (63 < arg.toNat → exec (.getEntry arg) s = .next (s.quiet.setReply [0x03#8]))
    ∧ (∀ ch : Chan, arg.toNat % 4 = ch.val →
        (match s.chan[ch].setup.settings with
          | some st => 2 ^ st.geometry.b
          | none => 8) ≤ arg.toNat / 16 % 8 →
        exec (.getReserve arg) s = .next (s.quiet.setReply [0x03#8]))

/-- GET STATUS: 12 bytes with the image status, each channel's state and outcome, and the causes of ATTENTION. ATTENTION is
asserted exactly while the loader is FINISHED and one of the causes holds, and the codes of every reply are those of Table 11.3
(R170, R173). -/
def Obligations.GetStatusReportsStatesAndCauses : Prop :=
  (∀ s : State, s.attention = true ↔ s.loader.phase = .finished ∧ (s.loader.status ≠ .good
      ∨ ∃ ch : Chan,
        let outcome := s.chan[ch].control.outcome
        let base := s.chan[ch].baselines
        let now := s.chan[ch].path.anomalies
        outcome = .untested ∨ outcome = .failed ∨ outcome = .aborted
          ∨ base.heldOff < now.heldOff ∨ base.intrusions < now.intrusions ∨ base.maskedWrites < now.maskedWrites
          ∨ base.unopened < now.unopened ∨ base.overruns < now.overruns))
  ∧ ([ImageStatus.none, .absent, .unsupported, .damaged, .good].map ImageStatus.code = [0, 1, 2, 3, 4]
    ∧ [ChannelState.disabled, .preparing, .testing, .analysing, .verifying, .service, .failed].map ChannelState.code =
        [0, 1, 2, 3, 4, 5, 6]
    ∧ [RunOutcome.none, .untested, .pass, .repaired, .failed, .aborted].map RunOutcome.code = [0, 1, 2, 3, 4, 5]
    ∧ Entry.free.code = 0 ∧ (∀ p : Fin 8, (Entry.lent p).code = 1)
    ∧ (∀ r : Repair, (Entry.tentative r).code = 2 ∧ (Entry.active r).code = 3)
    ∧ (∀ (column : Column) (scope : Scope), (RepairKind.substitute column scope).code = 0)
    ∧ (∀ reserve : Nat, (RepairKind.remap reserve).code = 1)
    ∧ [Origin.carried, .found].map Origin.code = [0, 1] ∧ [Scope.exact, .spanA, .spanB].map Scope.code = [0, 1, 2]
    ∧ [ReserveState.untested, .good, .bad, .inUse].map ReserveState.code = [0, 1, 2, 3]
    ∧ [SettingsError.none, .image, .geometry, .programStart, .badKind, .emptyMarch, .secondAnalyse, .spanBeforeStart,
        .spanContent, .noEnd].map SettingsError.code = [0, 1, 2, 3, 4, 5, 6, 7, 8, 9])
  ∧ ∀ (arg : Byte) (s : State), s.loader.phase = .finished →
    ∃ reply : List Byte, exec (.getStatus arg) s = .next (s.quiet.setReply reply)
      ∧ reply.length = 12 ∧ byteAt reply 0 = 0 ∧ byteAt reply 1 = s.loader.status.code
      ∧ (∀ ch : Chan, byteAt reply (2 + 2 * ch.val) = s.chan[ch].control.state.code
          ∧ byteAt reply (3 + 2 * ch.val) = s.chan[ch].control.outcome.code)
      ∧ ((byteAt reply 10).testBit 0 = true ↔ s.loader.status ≠ .good)
      ∧ (∀ ch : Chan, (byteAt reply 10).testBit (1 + ch.val) = true ↔
          s.chan[ch].control.outcome = .untested ∨ s.chan[ch].control.outcome = .failed
            ∨ s.chan[ch].control.outcome = .aborted)
      ∧ (∀ ch : Chan, (byteAt reply 11).testBit ch.val = true ↔
          let base := s.chan[ch].baselines
          let now := s.chan[ch].path.anomalies
          base.heldOff < now.heldOff ∨ base.intrusions < now.intrusions ∨ base.maskedWrites < now.maskedWrites
            ∨ base.unopened < now.unopened ∨ base.overruns < now.overruns)
      ∧ byteAt reply 10 < 32 ∧ byteAt reply 11 < 16

/-- GET RESULT: the 108 bytes of Table 11.4, each field at its offset in its width (R171). -/
def Obligations.GetResultReportsResultRecord : Prop :=
  ∀ (arg : Byte) (ch : Chan) (s : State), s.loader.phase = .finished → arg.toNat = ch.val →
    let c := s.chan[ch]
    let k := c.result.allocation
    let capture := fun (reply : List Byte) (at_ : Nat) (f : Option FirstFail) =>
      match f with
      | some x => fieldAt reply at_ 1 = 1 ∧ fieldAt reply (at_ + 1) 1 = x.bank.toNat
          ∧ fieldAt reply (at_ + 2) 2 = x.row.toNat ∧ fieldAt reply (at_ + 4) 2 = x.column.toNat
          ∧ fieldAt reply (at_ + 6) 1 = x.element % 256 ∧ fieldAt reply (at_ + 7) 1 = x.pass % 256
          ∧ fieldAt reply (at_ + 8) 4 = x.position % 2 ^ 32 ∧ fieldAt reply (at_ + 12) 1 = x.count % 256
      | none => fieldAt reply at_ 13 = 0
    ∃ reply : List Byte, exec (.getResult arg) s = .next (s.quiet.setReply reply)
      ∧ reply.length = 108 ∧ fieldAt reply 0 1 = 0
      ∧ fieldAt reply 1 1 = c.control.outcome.code ∧ fieldAt reply 2 1 = c.setup.code.code
      ∧ fieldAt reply 3 2 = c.control.runCount.toNat ∧ fieldAt reply 5 2 = c.control.resumedCount.toNat
      ∧ fieldAt reply 7 1 = c.result.substitutes % 256 ∧ fieldAt reply 8 1 = c.result.remaps % 256
      ∧ fieldAt reply 9 4 = k.rawRecords.toNat ∧ fieldAt reply 13 4 = k.repeatsDiscarded.toNat
      ∧ fieldAt reply 17 4 = k.unallocated.toNat ∧ fieldAt reply 21 4 = k.shortfalls.toNat
      ∧ fieldAt reply 25 4 = k.badReserve.toNat ∧ fieldAt reply 29 4 = k.reserveLost.toNat
      ∧ fieldAt reply 33 4 = k.verifyFails.toNat ∧ fieldAt reply 37 4 = k.tallyOverflows.toNat
      ∧ fieldAt reply 41 4 = c.result.queue.appended.toNat ∧ fieldAt reply 45 4 = c.result.queue.merges.toNat
      ∧ fieldAt reply 49 4 = c.result.queue.discarded.toNat
      ∧ fieldAt reply 53 2 = c.result.holdClamps.toNat ∧ fieldAt reply 55 2 = c.result.engine.fallbacks.toNat
      ∧ fieldAt reply 57 1 = (match c.setup.plan with
          | some plan => plan.joinsIgnored % 256
          | none => 0)
      ∧ fieldAt reply 58 2 = c.setup.dropped.toNat
      ∧ capture reply 60 c.result.firstRaw ∧ capture reply 73 c.result.firstVerify
      ∧ fieldAt reply 86 4 = c.result.runTime.toNat
      ∧ fieldAt reply 90 6 = c.result.engine.reads.toNat ∧ fieldAt reply 96 6 = c.result.engine.writes.toNat
      ∧ fieldAt reply 102 6 = c.result.engine.refreshes.toNat

/-- GET ENTRY: the 85 bytes of Table 11.2 for a FREE, a LENT and a valid entry of either kind (R24, R170). -/
def Obligations.GetEntryReportsEntryAndLine : Prop :=
  ∀ (arg : Byte) (i : Fin 64) (s : State), s.loader.phase = .finished → arg.toNat = i.val →
    ∃ reply : List Byte, exec (.getEntry arg) s = .next (s.quiet.setReply reply)
      ∧ reply.length = 85 ∧ fieldAt reply 0 1 = 0
      ∧ (s.table[i] = .free → fieldAt reply 1 1 = 0)
      ∧ (∀ p : Fin 8, s.table[i] = .lent p → fieldAt reply 1 1 = 1 ∧ fieldAt reply 12 1 = p.val)
      ∧ (∀ r : Repair, s.table[i] = .tentative r → fieldAt reply 1 1 = 2)
      ∧ (∀ r : Repair, s.table[i] = .active r → fieldAt reply 1 1 = 3)
      ∧ (s.table[i].repair? = none → ∀ n : Nat, 2 ≤ n → n < 12 → byteAt reply n = 0xFF)
      ∧ ((∀ p : Fin 8, s.table[i] ≠ .lent p) → fieldAt reply 12 1 = 0xFF)
      ∧ (∀ r : Repair, s.table[i].repair? = some r →
          fieldAt reply 2 1 = r.channel.val ∧ fieldAt reply 3 1 = r.kind.code ∧ fieldAt reply 4 1 = r.origin.code
            ∧ fieldAt reply 5 1 = r.bank.toNat ∧ fieldAt reply 6 2 = r.row.toNat
            ∧ match r.kind with
              | .substitute column scope => fieldAt reply 8 2 = column.toNat ∧ fieldAt reply 10 1 = scope.code
                  ∧ fieldAt reply 11 1 = 0xFF
              | .remap reserve => fieldAt reply 8 2 = 0xFFFF ∧ fieldAt reply 10 1 = 0xFF
                  ∧ fieldAt reply 11 1 = reserve % 256)
      ∧ ∀ w : Fin 8,
          let shown := (∃ p : Fin 8, s.table[i] = .lent p)
            ∨ ∃ r : Repair, s.table[i].repair? = some r ∧ r.isSubstitute = true
          (shown → fieldAt reply (13 + 9 * w.val) 9 = s.spare[i][w].toNat)
            ∧ (¬ shown → fieldAt reply (13 + 9 * w.val) 9 = 0)

/-- GET TALLY and GET RESERVE report a channel's tally and one bank's reserve rows (R132, R169, R170). -/
def Obligations.GetTallyAndReserveReportLists : Prop :=
  ∀ (arg : Byte) (ch : Chan) (s : State), s.loader.phase = .finished →
    (arg.toNat = ch.val →
      let tally := s.chan[ch].allocation.tally
      ∃ reply : List Byte, exec (.getTally arg) s = .next (s.quiet.setReply reply)
        ∧ reply.length = 2 + 4 * tally.length ∧ fieldAt reply 0 1 = 0 ∧ fieldAt reply 1 1 = tally.length % 256
        ∧ ∀ (j : Nat) (e : TallyEntry), tally[j]? = some e →
            fieldAt reply (2 + 4 * j) 1 = e.bank.toNat ∧ fieldAt reply (3 + 4 * j) 2 = e.row.toNat
              ∧ fieldAt reply (5 + 4 * j) 1 = e.count.toNat + (if e.mustRemap then 128 else 0))
    ∧ (arg.toNat % 4 = ch.val → ∀ bank : Bank, bank.toNat = arg.toNat / 16 % 8 →
      let c := s.chan[ch]
      let q := if c.setup.code = .none then (match c.setup.settings with
        | some st => st.geometry.q
        | none => 0) else 0
      bank.toNat < (match c.setup.settings with
        | some st => 2 ^ st.geometry.b
        | none => 8) →
      ∃ reply : List Byte, exec (.getReserve arg) s = .next (s.quiet.setReply reply)
        ∧ reply.length = 2 + min q (c.allocation.reserve.getD bank.toNat []).length
        ∧ fieldAt reply 0 1 = 0 ∧ fieldAt reply 1 1 = q % 256
        ∧ ∀ (j : Nat) (st : ReserveState), j < q → reserveAt c.allocation.reserve bank j = some st →
            fieldAt reply (2 + j) 1 = st.code)

/-- GET COUNTERS captures the channel's counter group, each counter at its place in its width (R172). -/
def Obligations.GetCountersCapturesGroup : Prop :=
  ∀ (arg : Byte) (ch : Chan) (s : State), s.loader.phase = .finished → arg.toNat = ch.val →
    let c := s.chan[ch]
    let k := c.allocation.counters
    let a := c.path.anomalies
    ∃ reply : List Byte, exec (.getCounters arg) s = .next (s.quiet.setReply reply)
      ∧ reply.length = 81 ∧ fieldAt reply 0 1 = 0
      ∧ fieldAt reply 1 6 = c.engine.counters.reads.toNat ∧ fieldAt reply 7 6 = c.engine.counters.writes.toNat
      ∧ fieldAt reply 13 6 = c.engine.counters.refreshes.toNat
      ∧ fieldAt reply 19 2 = c.engine.counters.fallbacks.toNat ∧ fieldAt reply 21 2 = c.timers.holdClamps.toNat
      ∧ fieldAt reply 23 4 = c.timers.clock.toNat
      ∧ fieldAt reply 27 4 = c.queue.counters.appended.toNat ∧ fieldAt reply 31 4 = c.queue.counters.merges.toNat
      ∧ fieldAt reply 35 4 = c.queue.counters.discarded.toNat
      ∧ fieldAt reply 39 4 = k.rawRecords.toNat ∧ fieldAt reply 43 4 = k.repeatsDiscarded.toNat
      ∧ fieldAt reply 47 4 = k.unallocated.toNat ∧ fieldAt reply 51 4 = k.tallyOverflows.toNat
      ∧ fieldAt reply 55 4 = k.badReserve.toNat ∧ fieldAt reply 59 4 = k.reserveLost.toNat
      ∧ fieldAt reply 63 4 = k.verifyFails.toNat ∧ fieldAt reply 67 4 = k.shortfalls.toNat
      ∧ fieldAt reply 71 2 = a.heldOff.toNat ∧ fieldAt reply 73 2 = a.intrusions.toNat
      ∧ fieldAt reply 75 2 = a.maskedWrites.toNat ∧ fieldAt reply 77 2 = a.unopened.toNat
      ∧ fieldAt reply 79 2 = a.overruns.toNat

/-- RETEST of a tested channel in SERVICE or of a FAILED one is answered OK: the outcome becomes NONE and the channel enters
PREPARING, which goes on at once as PREPARE RUN does when no READ is unanswered (R149, R155). -/
def Obligations.RetestEntersPreparing : Prop :=
  ∀ (arg : Byte) (ch : Chan) (s : State), s.loader.phase = .finished → arg.toNat = ch.val →
    (s.chan[ch].control.state = .service
        ∧ (s.chan[ch].control.outcome = .pass ∨ s.chan[ch].control.outcome = .repaired)
      ∨ s.chan[ch].control.state = .failed) →
    let taken := (s.quiet.setReply [0x00#8]).onControl ch fun k => { k with state := .preparing, outcome := .none }
    (s.chan[ch].path.returns ≠ [] → exec (.retest arg) s = .next taken)
      ∧ (s.chan[ch].path.returns = [] → exec (.retest arg) s = exec (.prepareRun ch) taken)

/-- RETEST of a running channel is answered BUSY, of a disabled or an untested one DISABLED, and ABORT of a channel that is
not running NOT_RUNNING; none has another effect (R154, R155). -/
def Obligations.HostCommandsOutOfPlaceAreRefused : Prop :=
  ∀ (arg : Byte) (ch : Chan) (s : State), s.loader.phase = .finished → arg.toNat = ch.val →
    (s.chan[ch].control.state.running = true → exec (.retest arg) s = .next (s.quiet.setReply [0x01#8]))
      ∧ (s.chan[ch].control.state = .disabled → exec (.retest arg) s = .next (s.quiet.setReply [0x04#8]))
      ∧ (s.chan[ch].control.state = .service → s.chan[ch].control.outcome = .untested →
          exec (.retest arg) s = .next (s.quiet.setReply [0x04#8]))
      ∧ (s.chan[ch].control.state.running = false → exec (.abort arg) s = .next (s.quiet.setReply [0x02#8]))

/-- An ABORT that is taken stops the engine and its timers, cancels or withdraws the channel's work at the allocator, discards
its queue, releases its FOUND entries (all are CARRIED first in PREPARING), returns the lines no other channel borrows, copies
the results, and leaves the channel FAILED with outcome ABORTED; other channels keep their life cycle, settings, paths,
timers and results. The model's choices are the position k of the generator that holds no sweep (notes/assumptions/21.md), the
element position, pass number, phase, flag and current operation, which the manual gives no meaning after an abort and which
stand as they were (notes/assumptions/22.md), and the flag of the wait for a return (notes/assumptions/19.md)
(R16, R21, R100, R104, R109, R110, R122, R128, R140, R141, R153, R171). -/
def Obligations.AbortEndsRunAndReleasesFound : Prop :=
  ∀ (arg : Byte) (ch : Chan) (s : State), s.loader.phase = .finished → arg.toNat = ch.val →
    s.chan[ch].control.state.running = true →
    let c := s.chan[ch]
    let kept := fun r : Repair => c.control.state = .preparing ∨ r.origin = .carried
    ∃ t : State, exec (.abort arg) s = .next t ∧ t.reply = [0x00#8]
      ∧ t.chan[ch].control = { c.control with state := .failed, outcome := .aborted }
      ∧ t.chan[ch].engine = { c.engine with
          state := .idle, banks := allClosed, refreshOwed := false, awaitingReturn := false,
          generator := AddressGenerator.empty, passSeed := none,
          outstanding := if c.engine.state = .sweep
            then c.engine.outstanding.map fun o => { o with uncompared := true } else c.engine.outstanding }
      ∧ t.chan[ch].timers = { c.timers with
          refreshMode := .stopped, refreshElapsed := 0, hold := none, clockRunning := false }
      ∧ t.chan[ch].queue = { c.queue with
          records := [],
          counters := { c.queue.counters with
            discarded := Counter.add c.queue.counters.discarded c.queue.records.length } }
      ∧ t.chan[ch].allocation.request = none ∧ t.chan[ch].allocation.tally = c.allocation.tally
      ∧ t.chan[ch].allocation.counters = c.allocation.counters
      ∧ t.chan[ch].allocation.exhausted = c.allocation.exhausted
      ∧ t.chan[ch].path = c.path ∧ t.chan[ch].setup = c.setup ∧ t.chan[ch].patterns = c.patterns
      ∧ t.chan[ch].baselines = c.baselines
      ∧ t.chan[ch].pins = ⟨if c.engine.state.active then [.closeAll] else [], []⟩
      ∧ t.chan[ch].result =
          { substitutes := t.substituteCount ch, remaps := t.remapCount ch, allocation := c.allocation.counters,
            queue := t.chan[ch].queue.counters, holdClamps := c.timers.holdClamps, engine := c.engine.counters,
            firstRaw := c.queue.firstRaw, firstVerify := c.queue.firstVerify, runTime := c.timers.clock }
      ∧ t.allocator.item.analyses ch = false
      ∧ ((∀ other : Chan, ∀ f ∈ s.chan[other].queue.records, f.channel = other) → t.allocator.item.serves ch = false)
      ∧ (s.BudgetLaw → t.arbiter.holders[ch] = false ∧ t.arbiter.waiting[ch] = false)
      ∧ (∀ i : Fin 64, match s.table[i] with
          | .free => t.table[i] = .free
          | .lent p => t.table[i] = if s.borrowed ch p then .lent p else .free
          | .tentative r => t.table[i] =
              if r.channel ≠ ch then .tentative r
              else if c.control.state = .preparing then .tentative { r with origin := .carried }
              else if r.origin = .found then .free else .tentative r
          | .active r => t.table[i] =
              if r.channel ≠ ch then .active r
              else if c.control.state = .preparing then .tentative { r with origin := .carried }
              else if r.origin = .found then .free else .active r)
      ∧ (∀ (i : Fin 64) (r : Repair) (j : Nat), s.table[i].repair? = some r → r.channel = ch → ¬ kept r →
          r.kind = .remap j → reserveAt c.allocation.reserve r.bank j = some .inUse →
          reserveAt t.chan[ch].allocation.reserve r.bank j = some .good)
      ∧ (∀ (bank : Bank) (j : Nat),
          (∀ (i : Fin 64) (r : Repair), s.table[i].repair? = some r → r.channel = ch → ¬ kept r →
            ¬ (r.kind = .remap j ∧ r.bank = bank)) →
          reserveAt t.chan[ch].allocation.reserve bank j = reserveAt c.allocation.reserve bank j)
      ∧ t.spare = s.spare ∧ t.store = s.store ∧ t.loader = s.loader ∧ t.spiOut = [] ∧ t.pending = s.pending
      ∧ ∀ other : Chan, other ≠ ch →
          let d := s.chan[other]
          let d' := t.chan[other]
          d'.control = d.control ∧ d'.setup = d.setup ∧ d'.path = d.path ∧ d'.timers = d.timers
            ∧ d'.patterns = d.patterns ∧ d'.result = d.result ∧ d'.baselines = d.baselines ∧ d'.pins = ⟨[], []⟩
            ∧ d'.engine.counters = d.engine.counters ∧ d'.engine.outstanding = d.engine.outstanding
            ∧ d'.engine.banks = d.engine.banks ∧ d'.queue.counters = d.queue.counters
            ∧ d'.allocation.tally = d.allocation.tally ∧ d'.allocation.reserve = d.allocation.reserve
            ∧ d'.allocation.counters = d.allocation.counters

/-- ACKNOWLEDGE sets every baseline to its counter's value, is answered OK, and changes nothing else; no anomaly cause holds
after it (R173). -/
def Obligations.AcknowledgeSetsBaselines : Prop :=
  ∀ (arg : Byte) (s : State), s.loader.phase = .finished →
    ∃ t : State, exec (.acknowledge arg) s = .next t
      ∧ t = (s.quiet.setReply [0x00#8]).mapChan (fun _ c => { c with baselines := c.path.anomalies })
      ∧ ∀ ch : Chan, t.chan[ch].anomalyCause = false ∧ t.chan[ch].outcomeCause = s.chan[ch].outcomeCause

/-! ## Service and held-off behaviour -/

/-- A serving path sends OPEN ROW to the reserve row of a REMAP, or as issued; a row at or above R−Q is an intrusion, sent as
issued and counted. The tracker takes the row named and the row sent; nothing else changes (R43, R47 to R49). -/
def Obligations.ServedOpenRowIsRedirected : Prop :=
  ∀ (ch : Chan) (bank : Bank) (row : Row) (s : State), s.chan[ch].control.state = .service →
    let c := s.chan[ch]
    let g := c.servedGeometry
    let b := decodeBank g bank
    let r := decodeRow g row
    let opened := fun (sent physical : Row) (anomalies : Anomalies) =>
      s.quiet.onChan ch fun c => { c with
        pins := ⟨[.openRow bank sent], []⟩
        path := { c.path with tracker := setBank c.path.tracker b (some ⟨r, physical⟩), anomalies := anomalies } }
    (r.toNat < g.rows - g.q → ∀ reserve : Nat, s.rowLookup .service ch b r = some reserve →
        exec (.openRow ch bank row) s =
          .next (opened (BitVec.ofNat 16 (g.rows - g.q + reserve)) (BitVec.ofNat 16 (g.rows - g.q + reserve))
            c.path.anomalies))
      ∧ (r.toNat < g.rows - g.q → s.rowLookup .service ch b r = none →
          exec (.openRow ch bank row) s = .next (opened row r c.path.anomalies))
      ∧ (g.rows - g.q ≤ r.toNat →
          exec (.openRow ch bank row) s =
            .next (opened row r { c.path.anomalies with intrusions := Counter.inc c.path.anomalies.intrusions }))

/-- A serving path refuses a READ when 32 are unanswered; otherwise it sends the READ as issued and appends a device word, or the
spare word that the lookup finds in a bank with a service row open. Nothing else changes (R43, R51, R52). -/
def Obligations.ServedReadIsForwardedOrRefused : Prop :=
  ∀ (ch : Chan) (bank : Bank) (column : Column) (s : State), s.chan[ch].control.state = .service →
    let c := s.chan[ch]
    let g := c.servedGeometry
    let b := decodeBank g bank
    let taken := fun (item : ReturnItem) (anomalies : Anomalies) =>
      s.quiet.onChan ch fun c => { c with
        pins := ⟨[.read bank column], []⟩
        path := { c.path with returns := c.path.returns ++ [item], anomalies := anomalies } }
    let exec' := exec (.read ch bank column) s
    (32 ≤ c.path.returns.length →
        exec' = .next (s.quiet.onPath ch fun p =>
          { p with anomalies := { p.anomalies with overruns := Counter.inc p.anomalies.overruns } }))
      ∧ (c.path.returns.length < 32 → bankAt c.path.tracker b = none →
          exec' = .next (taken .device
            { c.path.anomalies with unopened := Counter.inc c.path.anomalies.unopened }))
      ∧ (∀ o : OpenRow, c.path.returns.length < 32 → bankAt c.path.tracker b = some o →
          g.rows - g.q ≤ o.target.toNat → exec' = .next (taken .device c.path.anomalies))
      ∧ (∀ o : OpenRow, c.path.returns.length < 32 → bankAt c.path.tracker b = some o →
          o.target.toNat < g.rows - g.q →
          (s.wordLookup .service ch b o.target (decodeColumn g column) = none →
              exec' = .next (taken .device c.path.anomalies))
            ∧ ∀ (i : Fin 64) (w : Fin 8),
                s.wordLookup .service ch b o.target (decodeColumn g column) = some (i, w) →
                exec' = .next (taken (.captured s.spare[i][w]) c.path.anomalies))

/-- A serving path sends a WRITE as issued, but with no lane enabled to a reserve row that is IN_USE; a WRITE that a SUBSTITUTE
matches also writes its enabled lanes into the spare word. Nothing else changes (R43, R57). -/
def Obligations.ServedWriteIsForwardedMaskedOrMirrored : Prop :=
  ∀ (ch : Chan) (bank : Bank) (column : Column) (word : Word) (lanes : Lanes) (s : State),
    s.chan[ch].control.state = .service →
    let c := s.chan[ch]
    let g := c.servedGeometry
    let b := decodeBank g bank
    let sent := fun (lanes : Lanes) (anomalies : Anomalies) =>
      s.quiet.onChan ch fun c => { c with
        pins := ⟨[.write bank column word lanes], []⟩, path := { c.path with anomalies := anomalies } }
    let exec' := exec (.write ch bank column word lanes) s
    (bankAt c.path.tracker b = none →
        exec' = .next (sent lanes { c.path.anomalies with unopened := Counter.inc c.path.anomalies.unopened }))
      ∧ (∀ o : OpenRow, bankAt c.path.tracker b = some o → g.rows - g.q ≤ o.target.toNat →
          let held := reserveAt c.allocation.reserve b (o.target.toNat - (g.rows - g.q)) = some .inUse
          (held → exec' = .next (sent 0
              { c.path.anomalies with maskedWrites := Counter.inc c.path.anomalies.maskedWrites }))
            ∧ (¬ held → exec' = .next (sent lanes c.path.anomalies)))
      ∧ (∀ o : OpenRow, bankAt c.path.tracker b = some o → o.target.toNat < g.rows - g.q →
          let found := s.wordLookup .service ch b o.target (decodeColumn g column)
          (found = none → exec' = .next (sent lanes c.path.anomalies))
            ∧ ∀ (i : Fin 64) (w : Fin 8), found = some (i, w) →
                ∃ merged : Word, exec' = .next ((sent lanes c.path.anomalies).setLine i (s.spare[i].set w merged))
                  ∧ ∀ k : Nat, k < 72 →
                      merged.getLsbD k = if lanes.getLsbD (k / 8) then word.getLsbD k else s.spare[i][w].getLsbD k)

/-- A serving path sends CLOSE BANK, CLOSE ALL, REFRESH and MODE SET to the devices unchanged and changes the tracker as Table
3.2 gives; nothing is counted and nothing else changes (R47, R56). -/
def Obligations.ServedCloseRefreshModeSetAreForwarded : Prop :=
  ∀ (ch : Chan) (s : State), s.chan[ch].control.state = .service →
    let sent := fun (cmd : DeviceCommand) (tracker : Vector (Option OpenRow) 8) =>
      s.quiet.onChan ch fun c => { c with pins := ⟨[cmd], []⟩, path := { c.path with tracker := tracker } }
    let tracker := s.chan[ch].path.tracker
    (∀ bank : Bank, exec (.closeBank ch bank) s =
        .next (sent (.closeBank bank) (setBank tracker (decodeBank s.chan[ch].servedGeometry bank) none)))
      ∧ exec (.closeAll ch) s = .next (sent .closeAll allClosed)
      ∧ exec (.refresh ch) s = .next (sent .refresh allClosed)
      ∧ ∀ (register : BitVec 4) (value : BitVec 16),
          exec (.modeSet ch register value) s = .next (sent (.modeSet register value) tracker)

/-- A held-off command other than READ is dropped: it is counted, and nothing else changes (R58). -/
def Obligations.HeldOffCommandsAreDropped : Prop :=
  ∀ (ch : Chan) (s : State), s.chan[ch].control.state ≠ .service →
    let counted := s.quiet.onPath ch fun p =>
      { p with anomalies := { p.anomalies with heldOff := Counter.inc p.anomalies.heldOff } }
    (∀ (bank : Bank) (row : Row), exec (.openRow ch bank row) s = .next counted)
      ∧ (∀ (bank : Bank) (column : Column) (word : Word) (lanes : Lanes),
          exec (.write ch bank column word lanes) s = .next counted)
      ∧ (∀ bank : Bank, exec (.closeBank ch bank) s = .next counted)
      ∧ exec (.closeAll ch) s = .next counted ∧ exec (.refresh ch) s = .next counted
      ∧ ∀ (register : BitVec 4) (value : BitVec 16), exec (.modeSet ch register value) s = .next counted

/-- A held-off READ is counted; it is answered with poison at once when no READ is unanswered, is appended as a poison item
otherwise, and is refused and counted as an overrun when 32 are unanswered (R58 to R60). -/
def Obligations.HeldOffReadIsPoisoned : Prop :=
  ∀ (ch : Chan) (bank : Bank) (column : Column) (s : State), s.chan[ch].control.state ≠ .service →
    let c := s.chan[ch]
    let counted := { c.path.anomalies with heldOff := Counter.inc c.path.anomalies.heldOff }
    let exec' := exec (.read ch bank column) s
    (c.path.returns = [] →
        exec' = .next (s.quiet.onChan ch fun c => { c with
          pins := ⟨[], [BitVec.allOnes 72]⟩, path := { c.path with anomalies := counted } }))
      ∧ (c.path.returns ≠ [] → c.path.returns.length < 32 →
          exec' = .next (s.quiet.onPath ch fun p => { p with returns := p.returns ++ [.poison], anomalies := counted }))
      ∧ (32 ≤ c.path.returns.length →
          exec' = .next (s.quiet.onPath ch fun p =>
            { p with anomalies := { counted with overruns := Counter.inc p.anomalies.overruns } }))

/-! ## Device read returns -/

/-- A device return answers the oldest item of the path's list with the device word or the captured word, and the poison items
that become the oldest after it are answered one after another. One that no item waits for goes to the engine: that of an
uncompared READ is discarded, and with no READ outstanding it is discarded too; an allocator with no work before it stays
idle. Nothing else changes; the flag of the wait for a return is the model's (notes/assumptions/19.md) (R42, R53, R59, R101). -/
def Obligations.DeviceReturnIsRouted : Prop :=
  ∀ (ch : Chan) (word : Word) (s : State),
    let exec' := exec (.deviceReadReturn ch word) s
    (∀ (item : ReturnItem) (rest : List ReturnItem), s.chan[ch].path.returns = item :: rest → item ≠ .poison →
      let answer := match item with
        | .device => word
        | .captured w => w
        | .poison => BitVec.allOnes 72
      let poisons := rest.takeWhile fun x => x == .poison
      exec' = .next (s.quiet.onChan ch fun c => { c with
        pins := ⟨[], answer :: poisons.map fun _ => BitVec.allOnes 72⟩
        path := { c.path with returns := rest.dropWhile fun x => x == .poison } }))
    ∧ ((∀ item ∈ s.chan[ch].path.returns, item = .poison) →
      (s.chan[ch].engine.outstanding = none → exec' = .next s.quiet)
        ∧ (∀ o : OutstandingRead, s.chan[ch].engine.outstanding = some o → o.uncompared = true → s.ChoiceLaw →
            exec' = .next (s.quiet.onEngine ch fun e => { e with outstanding := none, awaitingReturn := false })))

/-- A return for the engine is compared, the captured spare word standing for the device word where there is one. A pass leaves
nothing but the end of the operation; a failure is merged into the youngest record of its address and phase or appended,
counted, and captured if it is the phase's first (R34, R91, R117 to R119, R123, R124). -/
def Obligations.EngineReturnIsCompared : Prop :=
  ∀ (ch : Chan) (word : Word) (o : OutstandingRead) (s : State),
    (∀ item ∈ s.chan[ch].path.returns, item = .poison) →
    s.chan[ch].engine.outstanding = some o → o.uncompared = false →
    let c := s.chan[ch]
    let got := o.captured.getD word
    let expected := s.expectedWord ch o.op o.address
    let failing := got ^^^ expected
    let f : FailRecord := { channel := ch, phase := c.engine.phase, bank := o.address.bank, row := o.address.row,
                            column := o.address.column, element := o.element, pass := o.pass, failing := failing,
                            repeats := 1 }
    let first : FirstFail := { bank := f.bank, row := f.row, column := f.column, element := f.element, pass := f.pass,
                               position := o.position, count := failingCount failing }
    let after := fun (records : List FailRecord) (counters : QueueCounters) =>
      ((s.quiet.onChan ch fun c => { c with
        engine := { c.engine with outstanding := none }
        queue := { records := records, counters := counters,
                   firstRaw := if c.engine.phase = .raw then some (c.queue.firstRaw.getD first) else c.queue.firstRaw
                   firstVerify := if c.engine.phase = .verify then some (c.queue.firstVerify.getD first)
                     else c.queue.firstVerify } }).operationDone ch).choose
    let exec' := exec (.deviceReadReturn ch word) s
    (got = expected →
        exec' = .next (((s.quiet.onEngine ch fun e => { e with outstanding := none }).operationDone ch).choose))
      ∧ (got ≠ expected → ∀ (older : List FailRecord) (youngest : FailRecord),
          c.queue.records = older ++ [youngest] →
          (youngest.phase = f.phase ∧ youngest.bank = f.bank ∧ youngest.row = f.row ∧ youngest.column = f.column) →
          exec' = .next (after
            (older ++ [{ youngest with failing := youngest.failing ||| failing,
                                       repeats := BitVec.ofNat 8 (min (youngest.repeats.toNat + 1) 255) }])
            { c.queue.counters with merges := Counter.inc c.queue.counters.merges }))
      ∧ (got ≠ expected →
          (∀ youngest : FailRecord, c.queue.records.getLast? = some youngest →
            ¬ (youngest.phase = f.phase ∧ youngest.bank = f.bank ∧ youngest.row = f.row
                ∧ youngest.column = f.column)) →
          exec' = .next (after (c.queue.records ++ [f])
            { c.queue.counters with appended := Counter.inc c.queue.counters.appended }))

/-! ## The March Engine -/

/-- PREPARE RUN: CLOSE ALL and the MODE SET list, reopen, the tally emptied and the reserve rows reset, lending, the run counters
cleared, the clock and the refresh timer started, and the engine at the program start, which it then takes. A line is lent only
for a pattern that the channel names. The model's choices are the position k of the generator that holds no sweep
(notes/assumptions/21.md), the absent pass seed and the current operation, which stands as it was until a chain begins
(notes/assumptions/22.md), and the flag of the wait for a return (notes/assumptions/19.md)
(R14, R19, R82, R104, R110, R135, R149). -/
def Obligations.PrepareRunStartsTheRun : Prop :=
  ∀ (ch : Chan) (s : State), s.chan[ch].control.state = .preparing → s.chan[ch].path.returns = [] →
    ∃ e : State,
      exec (.prepareRun ch) s = .next ((e.takeElementAt ch (match s.chan[ch].setup.settings with
        | some st => st.programStart
        | none => 0)).choose)
      ∧ (let c := s.chan[ch]
        e.chan[ch] = { c with
          pins := ⟨.closeAll :: (match c.setup.settings with
            | some st => st.modeSets.map fun m => DeviceCommand.modeSet m.register m.value
            | none => []), []⟩
          control := { c.control with state := .testing, runCount := Counter.inc c.control.runCount }
          engine := { c.engine with
            pass := 0, phase := .raw, rawReadSweep := false, banks := allClosed, generator := AddressGenerator.empty,
            passSeed := none, refreshOwed := false, awaitingReturn := false, counters := ⟨0, 0, 0, 0⟩ }
          timers := { c.timers with refreshMode := .running, refreshElapsed := 0, clockRunning := true, clock := 0,
                                    holdClamps := 0 }
          queue := { c.queue with counters := ⟨0, 0, 0⟩, firstRaw := none, firstVerify := none }
          allocation := { c.allocation with
            tally := [], exhausted := false, counters := ⟨0, 0, 0, 0, 0, 0, 0, 0⟩
            reserve := c.allocation.reserve.map fun bank => bank.map fun st =>
              if st = .inUse then .inUse else .untested }
          patterns := e.chan[ch].patterns })
      ∧ (∀ p : Fin 8, s.chan[ch].names p = false → e.chan[ch].patterns[p] = .notNamed)
      ∧ (∀ p : Fin 8, s.chan[ch].names p = true →
          match s.table[patternEntry p] with
          | .free => match s.loader.patternTable[p.val]? with
            | some line => e.table[patternEntry p] = .lent p ∧ e.spare[patternEntry p] = line
                ∧ e.chan[ch].patterns[p] = .lent
            | none => e.table[patternEntry p] = .free ∧ e.chan[ch].patterns[p] = .unavailable
          | .lent _ => e.chan[ch].patterns[p] = .lent
          | .tentative _ => e.chan[ch].patterns[p] = .unavailable
          | .active _ => e.chan[ch].patterns[p] = .unavailable)
      ∧ (∀ i : Fin 64, match s.table[i].repair? with
          | some r => e.table[i] = if r.channel = ch then .tentative { r with origin := .carried } else s.table[i]
          | none => e.table[i] = s.table[i]
              ∨ ∃ p : Fin 8, s.chan[ch].names p = true ∧ i = patternEntry p ∧ e.table[i] = .lent p)
      ∧ (∀ i : Fin 64, e.table[i] = s.table[i] ∨ s.table[i].repair?.isSome = true → e.spare[i] = s.spare[i])
      ∧ (∀ other : Chan, other ≠ ch → e.chan[other] = { s.chan[other] with pins := ⟨[], []⟩ })
      ∧ e.store = s.store ∧ e.arbiter = s.arbiter ∧ e.allocator = s.allocator ∧ e.loader = s.loader
      ∧ e.reply = s.reply ∧ e.spiOut = [] ∧ e.pending = s.pending

/-- The engine at a WRITE operation in SWEEP: an owed refresh, the target row, the WRITE of the expected word with all lanes, a
matching spare word in VERIFY, and the end of the operation (R85 to R88, R94). -/
def Obligations.EngineWriteIsIssued : Prop :=
  ∀ (ch : Chan) (element : Nat) (o : Op) (a : Address) (s : State),
    s.chan[ch].engine.state = .sweep → s.chan[ch].engine.reading = false →
    s.currentOp ch = some (element, o) → s.chan[ch].address = some a → o.isRead = false →
    let e := s.chan[ch].engine
    let physical := match e.phase with
      | .raw => a.row
      | .verify => s.physicalRow .proving ch a.bank a.row
    let word := s.expectedWord ch o a
    let issued := s.quiet.onChan ch fun c => { c with
      pins := ⟨e.commandsAt a physical ++ [.write a.bank a.column word (BitVec.allOnes 9)], []⟩
      engine := { e.atAddress a physical with
        counters := { (e.atAddress a physical).counters with writes := Counter.inc e.counters.writes } } }
    (e.phase = .raw → exec (.engineWrite ch) s = .next ((issued.operationDone ch).choose))
      ∧ (e.phase = .verify → s.wordLookup .proving ch a.bank a.row a.column = none →
          exec (.engineWrite ch) s = .next ((issued.operationDone ch).choose))
      ∧ (∀ (i : Fin 64) (w : Fin 8), e.phase = .verify →
          s.wordLookup .proving ch a.bank a.row a.column = some (i, w) →
          exec (.engineWrite ch) s =
            .next (((issued.setLine i (s.spare[i].set w word)).operationDone ch).choose))

/-- The engine at a READ operation in SWEEP: an owed refresh and the target row first; then it waits for an uncompared READ, or
stalls on 16 records, or issues the READ with its spare word in VERIFY; nothing else changes. The flag of the wait for a return is
the model's (notes/assumptions/19.md) (R85 to R87, R89, R90, R94). -/
def Obligations.EngineReadIsIssuedOrStalls : Prop :=
  ∀ (ch : Chan) (element : Nat) (o : Op) (a : Address) (s : State),
    s.chan[ch].engine.state = .sweep → s.chan[ch].engine.reading = false →
    s.currentOp ch = some (element, o) → s.chan[ch].address = some a → o.isRead = true →
    let e := s.chan[ch].engine
    let physical := match e.phase with
      | .raw => a.row
      | .verify => s.physicalRow .proving ch a.bank a.row
    let next := fun (sent : List DeviceCommand) (e' : Engine) =>
      s.quiet.onChan ch fun c => { c with pins := ⟨e.commandsAt a physical ++ sent, []⟩, engine := e' }
    let exec' := exec (.engineRead ch) s
    (e.outstanding ≠ none → exec' = .next (next [] { e.atAddress a physical with awaitingReturn := true }))
      ∧ (e.outstanding = none → 16 ≤ s.chan[ch].queue.records.length →
          exec' = .next (next [] { e.atAddress a physical with state := .stall }))
      ∧ (e.outstanding = none → s.chan[ch].queue.records.length ≤ 15 →
          exec' = .next (next [.read a.bank a.column] { e.atAddress a physical with
            awaitingReturn := false
            outstanding := some
              { address := a, op := o, element := element, pass := e.pass, position := e.generator.position,
                captured := if e.phase = .verify
                  then (s.wordLookup .proving ch a.bank a.row a.column).map fun x => s.spare[x.1][x.2] else none
                uncompared := false }
            counters := { (e.atAddress a physical).counters with reads := Counter.inc e.counters.reads } }))

/-- When an operation is done the engine goes to the chain's next operation, or to its first at the next address; at the end of
the sweep it sets the raw read flag for a RAW chain with a READ, releases its token, and takes the element after the chain. That
the generator's position k is then 0, and that the pass seed is dropped, are the model's choices (notes/assumptions/21.md,
notes/assumptions/22.md) (R29, R85, R92). -/
def Obligations.OperationDoneAdvancesTheSweep : Prop :=
  ∀ (ch : Chan) (chain : List Nat) (last : Nat) (w : Sweep) (s : State),
    s.chan[ch].currentChain = some (chain ++ [last]) → s.chan[ch].engine.generator.sweep = some w →
    let ops := chainOps s.store (chain ++ [last])
    let e := s.chan[ch].engine
    (e.currentOp + 1 < ops.length →
        s.operationDone ch = s.onEngine ch fun e => { e with currentOp := e.currentOp + 1 })
      ∧ (ops.length ≤ e.currentOp + 1 → e.generator.position + 1 < w.size →
          s.operationDone ch = s.onEngine ch fun e =>
            { e with currentOp := 0, generator := { sweep := some w, position := e.generator.position + 1 } })
      ∧ (ops.length ≤ e.currentOp + 1 → w.size ≤ e.generator.position + 1 →
          s.operationDone ch = ((s.onEngine ch fun e =>
            { e with
              currentOp := 0, generator := AddressGenerator.empty, passSeed := none
              rawReadSweep := e.rawReadSweep
                || (decide (e.phase = .raw) && ops.any fun x => x.2.isRead) }).releaseToken ch).takeElementAt ch
                  (last + 1))

/-- Taking a MARCH element begins its chain: the first operation, the pass seed of a RANDOM chain, the fallbacks of a STORED
chain whose line is unavailable, an owed refresh serviced, and a token asked for in WAIT_TOKEN. The refresh before the request is
the model's order (notes/assumptions/6.md), and the absent pass seed of another chain its choice (notes/assumptions/22.md)
(R83, R84, R94). -/
def Obligations.TakingMarchBeginsItsChain : Prop :=
  ∀ (ch : Chan) (i : Nat) (m : March) (plan : Plan) (chain : List Nat) (s : State),
    elementAt s.store i = .march m → s.chan[ch].setup.plan = some plan → plan.chainAt i = some chain →
    s.takeElementAt ch i = (s.onChan ch fun c =>
      let e := c.engine
      { c with
        pins := { c.pins with toDevice := c.pins.toDevice ++ refreshCommands e.refreshOwed }
        engine := { e with
          position := i, state := .waitToken, currentOp := 0, refreshOwed := false
          banks := if e.refreshOwed then allClosed else e.banks
          passSeed := if m.background = .random then some (passSeedOf m.seed e.pass) else none
          counters := { e.counters with
            refreshes := if e.refreshOwed then Counter.inc e.counters.refreshes else e.counters.refreshes
            fallbacks := if m.background = .stored ∧ c.patterns[m.pattern] = .unavailable ∧ e.pass = 0
              then Counter.add e.counters.fallbacks chain.length else e.counters.fallbacks } } }).requestToken ch

/-- Taking a HOLD closes every bank and starts the hold timer, cut to the retention limit; a STOP hold pauses a running refresh
timer. Taking a REPEAT goes back to its span with the next pass or on past it. Taking the ANALYSE or the END closes every
bank, enters DRAIN with the channel's report made, services an owed refresh, and tests the drain condition
(R78, R83, R95, R96, R106, R109, R150). -/
def Obligations.TakingOtherElements : Prop :=
  ∀ (ch : Chan) (i : Nat) (s : State),
    (∀ (duration : Nat) (refresh : HoldRefresh) (st : Settings),
        elementAt s.store i = .hold duration refresh → s.chan[ch].setup.settings = some st →
        s.takeElementAt ch i = s.onChan ch fun c =>
          let e := c.engine
          { c with
            pins := { c.pins with toDevice := c.pins.toDevice ++ .closeAll ::
              (if e.refreshOwed then (if refresh = .keep then [.closeAll, .refresh] else [.refresh]) else []) }
            engine := { e with
              position := i, state := .hold, banks := allClosed, refreshOwed := false
              counters := { e.counters with
                refreshes := if e.refreshOwed then Counter.inc e.counters.refreshes else e.counters.refreshes } }
            timers := { c.timers with
              refreshMode := if refresh = .stop ∧ c.timers.refreshMode = .running then .paused
                else c.timers.refreshMode
              hold := some { duration := min duration st.retentionLimit, elapsed := 0 }
              holdClamps := if st.retentionLimit < duration then Counter.inc c.timers.holdClamps
                else c.timers.holdClamps } })
    ∧ (∀ n k : Nat, elementAt s.store i = .repeated n k →
        let e := s.chan[ch].engine
        let goTo := fun (pass target : Nat) =>
          (∀ n' k' : Nat, elementAt s.store target ≠ .repeated n' k') →
            s.takeElementAt ch i = (s.onEngine ch fun e => { e with pass := pass }).takeElementAt ch target
        (n = 0 ∨ k = 0 → goTo e.pass (i + 1))
          ∧ (1 ≤ n → 1 ≤ k → e.pass < k → goTo (e.pass + 1) (i - n))
          ∧ (1 ≤ n → 1 ≤ k → k ≤ e.pass → goTo 0 (i + 1)))
    ∧ (∀ x : Element, elementAt s.store i = x → (x = .analyse ∨ x = .finish) →
        s.takeElementAt ch i = (s.onChan ch fun c =>
          let e := c.engine
          { c with
            pins := { c.pins with toDevice := c.pins.toDevice ++ .closeAll :: refreshCommands e.refreshOwed }
            engine := { e with
              position := i, state := .drain, banks := allClosed, refreshOwed := false
              counters := { e.counters with
                refreshes := if e.refreshOwed then Counter.inc e.counters.refreshes else e.counters.refreshes } }
            control := { c.control with
              state := if c.control.state = .testing ∨ (x = .finish ∧ c.control.state = .verifying) then .analysing
                else c.control.state } }).drainTest ch)

/-- A request is granted at once while fewer than K tokens are held, and waits otherwise; a release gives the token to the first
waiting channel in the cyclic order after last granted, or frees it. A grant starts the channel's sweep at its first address
(R84, R112, R113). -/
def Obligations.TokensAreGrantedInCyclicOrder : Prop :=
  ∀ (ch : Chan) (s : State),
    let granted := fun (ch : Chan) (a : Arbiter) =>
      { a with holders := a.holders.set ch true, waiting := a.waiting.set ch false, lastGranted := ch }
    let sweeping := fun (ch : Chan) (m : March) (s : State) =>
      let c := s.chan[ch]
      let size := c.geometry.banks * phaseRows c.geometry c.engine.phase * c.geometry.columns
      s.onEngine ch fun e => { e with
        state := .sweep
        generator := { sweep := some { phase := e.phase, size := size, start := m.rotation * size / 256,
                                       direction := m.direction }, position := 0 } }
    (∀ m : March, elementAt s.store s.chan[ch].engine.position = .march m → s.arbiter.held < s.arbiter.budget →
        s.requestToken ch = sweeping ch m (s.setArbiter (granted ch s.arbiter)))
      ∧ (s.arbiter.budget ≤ s.arbiter.held →
          s.requestToken ch = s.setArbiter { s.arbiter with waiting := s.arbiter.waiting.set ch true })
      ∧ (let freed := { s.arbiter with holders := s.arbiter.holders.set ch false }
        s.arbiter.holders[ch] = true →
          (∀ k : Fin 3, ∀ m : March,
            let next : Chan := Fin.ofNat 4 (s.arbiter.lastGranted.val + 1 + k.val)
            s.arbiter.waiting[next] = true →
            (∀ j : Fin 3, j < k → s.arbiter.waiting[Fin.ofNat 4 (s.arbiter.lastGranted.val + 1 + j.val)] = false) →
            elementAt s.store s.chan[next].engine.position = .march m →
            s.releaseToken ch = sweeping next m (s.setArbiter (granted next freed)))
          ∧ ((∀ other : Chan, s.arbiter.waiting[other] = false) → s.releaseToken ch = s.setArbiter freed))

/-- The hold timer's expiry stops it and the engine takes the element after the HOLD; after a STOP hold the refresh timer resumes
and the recovery refresh is issued and counted first (R95, R106, R107, R109). -/
def Obligations.HoldExpiryLeavesHold : Prop :=
  ∀ (ch : Chan) (duration : Nat) (run : HoldRun) (s : State),
    let c := s.chan[ch]
    c.engine.state = .hold → c.timers.hold = some run →
    (elementAt s.store c.engine.position = .hold duration .keep →
        exec (.holdTimerExpiry ch) s = .next (((s.quiet.onTimers ch fun t =>
          { t with hold := none, refreshMode := if t.refreshMode = .paused then .running else t.refreshMode
          }).takeElementAt ch (c.engine.position + 1)).choose))
      ∧ (elementAt s.store c.engine.position = .hold duration .stop →
          exec (.holdTimerExpiry ch) s = .next (((s.quiet.onChan ch fun c => { c with
            pins := ⟨[.closeAll, .refresh], []⟩
            timers := { c.timers with
              hold := none, refreshMode := if c.timers.refreshMode = .paused then .running else c.timers.refreshMode }
            engine := { c.engine with
              banks := allClosed, refreshOwed := false
              counters := { c.engine.counters with refreshes := Counter.inc c.engine.counters.refreshes } }
            }).takeElementAt ch (c.engine.position + 1)).choose))

/-- The refresh timer's expiry restarts it from zero and marks one refresh owed, two merging into one; in WAIT_TOKEN, STALL, HOLD
and DRAIN, and in the wait for an uncompared READ, it is serviced at once with CLOSE ALL and REFRESH and counted. A timer that
is not running does not expire. The flag of the wait for a return is the model's (notes/assumptions/19.md) (R94, R104 to R106). -/
def Obligations.RefreshExpiryIsOwedOrServiced : Prop :=
  ∀ (ch : Chan) (s : State),
    let e := s.chan[ch].engine
    let exec' := exec (.refreshTimerExpiry ch) s
    (s.chan[ch].timers.refreshMode ≠ .running → exec' = .next s.quiet)
      ∧ (s.chan[ch].timers.refreshMode = .running → e.state = .sweep → e.awaitingReturn = false →
          exec' = .next (s.quiet.onChan ch fun c => { c with
            timers := { c.timers with refreshElapsed := 0 }, engine := { c.engine with refreshOwed := true } }))
      ∧ (s.chan[ch].timers.refreshMode = .running →
          (e.state = .waitToken ∨ e.state = .stall ∨ e.state = .hold ∨ e.state = .drain
            ∨ e.state = .sweep ∧ e.awaitingReturn = true) →
          exec' = .next (s.quiet.onChan ch fun c => { c with
            pins := ⟨[.closeAll, .refresh], []⟩
            timers := { c.timers with refreshElapsed := 0 }
            engine := { c.engine with
              refreshOwed := false, banks := allClosed
              awaitingReturn := if c.engine.state = .sweep then false else c.engine.awaitingReturn
              counters := { c.engine.counters with refreshes := Counter.inc c.engine.counters.refreshes } } }))

/-- A whole millisecond adds one to a running run clock, which stops at its maximum, and does nothing to a stopped one
(R103, R110). -/
def Obligations.RunClockCountsMilliseconds : Prop :=
  ∀ (ch : Chan) (s : State),
    (s.chan[ch].timers.clockRunning = true →
        exec (.runClockMillisecond ch) s = .next (s.quiet.onTimers ch fun t =>
          { t with clock := BitVec.ofNat 32 (min (t.clock.toNat + 1) (2 ^ 32 - 1)) }))
      ∧ (s.chan[ch].timers.clockRunning = false → exec (.runClockMillisecond ch) s = .next s.quiet)

/-! ## The Repair Allocator -/

/-- An idle allocator takes the work of the first channel with work after the last served: its oldest record, classified as it is
taken and releasing a stalled engine, or its analysis request. A busy allocator, or one with no work before it, chooses
nothing (R90, R120, R126 to R128). -/
def Obligations.AllocatorChoosesInCyclicOrder : Prop :=
  ∀ s : State,
    (s.allocator.item ≠ .idle → s.choose = s)
      ∧ ((∀ ch : Chan, s.chan[ch].queue.records = [] ∧ s.chan[ch].allocation.request = none) → s.choose = s)
      ∧ ∀ k : Fin 4,
        let ch : Chan := Fin.ofNat 4 (s.allocator.lastServed.val + 1 + k.val)
        s.allocator.item = .idle →
        (∀ j : Fin 4, j < k →
          let other : Chan := Fin.ofNat 4 (s.allocator.lastServed.val + 1 + j.val)
          s.chan[other].queue.records = [] ∧ s.chan[other].allocation.request = none) →
        (∀ (f : FailRecord) (rest : List FailRecord), s.chan[ch].queue.records = f :: rest →
          let owner := s.chan[f.channel]
          let covered := s.wordLookup .proving f.channel f.bank f.row f.column ≠ none
            ∨ s.rowLookup .proving f.channel f.bank f.row ≠ none
            ∨ ∃ t ∈ owner.allocation.tally, t.bank = f.bank ∧ t.row = f.row ∧ t.mustRemap = true
          ∃ kind : RecordClass,
            (f.phase = .verify → kind = .verify)
              ∧ (f.phase = .raw → owner.geometry.rows - owner.geometry.q ≤ f.row.toNat → kind = .reserveRow)
              ∧ (f.phase = .raw → f.row.toNat < owner.geometry.rows - owner.geometry.q → covered → kind = .covered)
              ∧ (f.phase = .raw → f.row.toNat < owner.geometry.rows - owner.geometry.q → ¬ covered → kind = .newFail)
              ∧ s.choose = (s.setAllocator { item := .record f kind, lastServed := ch }).onChan ch fun c => { c with
                  queue := { c.queue with records := rest }
                  engine := { c.engine with
                    state := if c.engine.state = .stall ∧ rest.length < 16 then .sweep else c.engine.state } })
        ∧ (∀ flag : Bool, s.chan[ch].queue.records = [] → s.chan[ch].allocation.request = some flag →
          s.choose = (s.setAllocator { item := .analysis ch flag, lastServed := ch }).onAllocation ch fun a =>
            { a with request := none })

/-- The engine in DRAIN with its queue empty and no record in service: at the ANALYSE, or at the END in the RAW phase, it places
its request with the flag; at the END in the VERIFY phase it closes every bank, enters DONE with the refresh timer stopped,
and reports done. Otherwise it waits (R96 to R98, R104, R150). -/
def Obligations.DrainConditionEndsTheWait : Prop :=
  ∀ (ch : Chan) (s : State),
    let c := s.chan[ch]
    let element := elementAt s.store c.engine.position
    ((c.engine.state ≠ .drain ∨ c.queue.records ≠ [] ∨ s.allocator.item.serves ch = true) → s.drainTest ch = s)
      ∧ (c.engine.state = .drain → c.queue.records = [] → s.allocator.item.serves ch = false →
          c.allocation.request = none → s.allocator.item.analyses ch = false →
          ((element = .analyse ∨ element = .finish ∧ c.engine.phase = .raw) →
              s.drainTest ch = s.onAllocation ch fun a => { a with request := some c.engine.rawReadSweep })
            ∧ (element = .finish → c.engine.phase = .verify → c.control.state = .analysing →
                s.drainTest ch = (s.onChan ch fun c => { c with
                  pins := { c.pins with toDevice := c.pins.toDevice ++ [.closeAll] }
                  engine := { c.engine with banks := allClosed, state := .done }
                  timers := { c.timers with refreshMode := .stopped, refreshElapsed := 0 } }).endRun ch))

/-- The done report: the clock stops; a verify fail, an unallocated fail, a remap shortfall or the exhausted flag makes the
outcome FAILED and keeps the entries; otherwise the entries are committed, the channel enters SERVICE with every bank of its
tracker closed, and the outcome is REPAIRED or PASS by whether it has valid entries. The lines no other channel borrows
return and the results are copied (R15, R17, R21, R110, R151, R152, R171). -/
def Obligations.DoneReportDecidesTheOutcome : Prop :=
  ∀ (ch : Chan) (s : State),
    let c := s.chan[ch]
    let k := c.allocation.counters
    let bad := k.verifyFails ≠ 0 ∨ k.unallocated ≠ 0 ∨ k.shortfalls ≠ 0 ∨ c.allocation.exhausted = true
    let valid := ∃ i : Fin 64, s.table[i].belongsTo ch = true
    let t := s.endRun ch
    let copied : CopiedResult :=
      { substitutes := s.substituteCount ch, remaps := s.remapCount ch, allocation := k, queue := c.queue.counters,
        holdClamps := c.timers.holdClamps, engine := c.engine.counters, firstRaw := c.queue.firstRaw,
        firstVerify := c.queue.firstVerify, runTime := c.timers.clock }
    let timers := { c.timers with clockRunning := false }
    (bad → t.chan[ch] = { c with
        timers := timers, result := copied, control := { c.control with state := .failed, outcome := .failed } })
      ∧ (¬ bad → t.chan[ch] = { c with
          timers := timers, result := copied, path := { c.path with tracker := allClosed }
          control := { c.control with state := .service,
                                      outcome := if valid then .repaired else .pass } })
      ∧ (∀ i : Fin 64, match s.table[i] with
          | .free => t.table[i] = .free
          | .lent p => t.table[i] = if s.borrowed ch p then .lent p else .free
          | .active r => t.table[i] = .active r
          | .tentative r => (bad ∨ r.channel ≠ ch → t.table[i] = .tentative r)
              ∧ (¬ bad → r.channel = ch → t.table[i] = .active r))
      ∧ (∀ other : Chan, other ≠ ch → t.chan[other] = s.chan[other])
      ∧ t.spare = s.spare ∧ t.store = s.store ∧ t.arbiter = s.arbiter ∧ t.allocator = s.allocator
      ∧ t.loader = s.loader ∧ t.reply = s.reply ∧ t.spiOut = s.spiOut ∧ t.pending = s.pending

/-- The service of a VERIFY record adds one to verify fails, whatever its repeat count, and creates, releases and marks
nothing (R129). -/
def Obligations.VerifyRecordCountsOneVerifyFail : Prop :=
  ∀ (f : FailRecord) (s : State), s.allocator.item = .record f .verify →
    exec .serviceCompletion s = .next ((((s.quiet.onAllocation f.channel fun a =>
      { a with counters := { a.counters with verifyFails := Counter.inc a.counters.verifyFails } }).setAllocator
        { s.allocator with item := .idle }).drainTest f.channel).choose)

/-- The service of a covered record adds its repeat count to repeats discarded and one to RAW records processed, and creates,
releases and marks nothing (R131). -/
def Obligations.CoveredRecordCountsItsRepeats : Prop :=
  ∀ (f : FailRecord) (s : State), s.allocator.item = .record f .covered →
    exec .serviceCompletion s = .next ((((s.quiet.onAllocation f.channel fun a =>
      { a with counters := { a.counters with
          rawRecords := Counter.inc a.counters.rawRecords
          repeatsDiscarded := Counter.add a.counters.repeatsDiscarded f.repeats.toNat } }).setAllocator
        { s.allocator with item := .idle }).drainTest f.channel).choose)

/-- The service of a new fail: the row is in the tally, joins it, or takes the place of the oldest unmarked row, or overflows;
then the lowest FREE entry becomes a FOUND SUBSTITUTE with its line zeroed and the row's count grows, marked at T, or with
no FREE entry the fail is unallocated. Repeats beyond the first and one RAW record are counted (R5, R132, R133). -/
def Obligations.NewFailIsTalliedAndSubstituted : Prop :=
  ∀ (f : FailRecord) (tally' : List TallyEntry) (overflow : Bool) (st : Settings) (s : State),
    s.allocator.item = .record f .newFail → s.chan[f.channel].setup.settings = some st →
    let tally := s.chan[f.channel].allocation.tally
    let isRow := fun t : TallyEntry => t.bank = f.bank ∧ t.row = f.row
    let joined : TallyEntry := { bank := f.bank, row := f.row, count := 0, mustRemap := false }
    ((∃ t ∈ tally, isRow t) ∧ tally' = tally ∧ overflow = false
      ∨ (∀ t ∈ tally, ¬ isRow t) ∧ tally.length < 8 ∧ tally' = tally ++ [joined] ∧ overflow = false
      ∨ (∃ (older younger : List TallyEntry) (evicted : TallyEntry), tally = older ++ evicted :: younger
          ∧ (∀ t ∈ tally, ¬ isRow t) ∧ 8 ≤ tally.length ∧ (∀ t ∈ older, t.mustRemap = true)
          ∧ evicted.mustRemap = false ∧ tally' = older ++ younger ++ [joined] ∧ overflow = false)
      ∨ (∀ t ∈ tally, ¬ isRow t) ∧ 8 ≤ tally.length ∧ (∀ t ∈ tally, t.mustRemap = true) ∧ tally' = tally
          ∧ overflow = true) →
    let served := fun (s : State) (tally : List TallyEntry) (full : Bool) =>
      (((s.onAllocation f.channel fun a => { a with
        tally := tally
        exhausted := a.exhausted || full
        counters := { a.counters with
          rawRecords := Counter.inc a.counters.rawRecords
          repeatsDiscarded := Counter.add a.counters.repeatsDiscarded (f.repeats.toNat - 1)
          tallyOverflows := if overflow then Counter.inc a.counters.tallyOverflows else a.counters.tallyOverflows
          unallocated := if full then Counter.inc a.counters.unallocated else a.counters.unallocated } }).setAllocator
        { s.allocator with item := .idle }).drainTest f.channel).choose
    let grown := tally'.map fun t =>
      if isRow t then
        let count := Counter.inc t.count
        { t with count := count, mustRemap := t.mustRemap || decide (count.toNat = st.threshold) }
      else t
    let column := f.column &&& ~~~(s.chan[f.channel].ignored st.scope)
    (∀ i : Fin 64, s.table[i] = .free → (∀ j : Fin 64, j < i → s.table[j] ≠ .free) →
        exec .serviceCompletion s = .next (served
          ((s.quiet.setEntry i (.tentative
            { channel := f.channel, origin := .found, bank := f.bank, row := f.row,
              kind := .substitute column st.scope })).setLine i (Vector.replicate 8 0)) grown false))
      ∧ ((∀ i : Fin 64, s.table[i] ≠ .free) → exec .serviceCompletion s = .next (served s.quiet tally' true))

/-- The service of a reserve-row record: an UNTESTED or GOOD reserve row becomes BAD and is counted; a BAD one stays; one IN_USE
becomes BAD, its REMAP is released, and it is counted as lost too. One RAW record is counted and nothing else changes (R130). -/
def Obligations.ReserveRowRecordSpoilsTheRow : Prop :=
  ∀ (f : FailRecord) (s : State), s.allocator.item = .record f .reserveRow →
    let c := s.chan[f.channel]
    let reserve := f.row.toNat - (c.geometry.rows - c.geometry.q)
    let was := reserveAt c.allocation.reserve f.bank reserve
    let served := fun (s : State) (spoilt lost : Bool) =>
      (((s.onAllocation f.channel fun a => { a with
        reserve := if spoilt then setReserve a.reserve f.bank reserve .bad else a.reserve
        counters := { a.counters with
          rawRecords := Counter.inc a.counters.rawRecords
          badReserve := if spoilt then Counter.inc a.counters.badReserve else a.counters.badReserve
          reserveLost := if lost then Counter.inc a.counters.reserveLost else a.counters.reserveLost } }).setAllocator
        { s.allocator with item := .idle }).drainTest f.channel).choose
    (was = some .untested ∨ was = some .good → exec .serviceCompletion s = .next (served s.quiet true false))
      ∧ (was = some .bad → exec .serviceCompletion s = .next (served s.quiet false false))
      ∧ (was = some .inUse → exec .serviceCompletion s = .next (served
          (s.quiet.mapTable fun _ e => if e.holdsReserve f.channel f.bank reserve then .free else e) true true))

/-- The completion of an analysis applies promotion and then the remaps of the marked rows, oldest first, and reports to the
engine. A marked row with a GOOD reserve row in its bank has its SUBSTITUTEs released and becomes a FOUND REMAP to the lowest,
at the lowest FREE entry; one without is a shortfall. At the report an engine in DRAIN at the ANALYSE sets its phase to VERIFY,
the channel goes from ANALYSING to VERIFYING, and then (notes/assumptions/12.md) the element after is taken; one at the END
issues the final CLOSE ALL, enters DONE with the refresh timer stopped, and reports done
(R97, R98, R104, R136 to R138, R150). -/
def Obligations.AnalysisPromotesAndRemaps : Prop :=
  (∀ (ch : Chan) (flag : Bool) (s : State), s.allocator.item = .analysis ch flag →
    let promoted := s.quiet.onAllocation ch fun a => { a with
      reserve := if flag then a.reserve.map fun bank => bank.map fun st => if st = .untested then .good else st
        else a.reserve }
    let marked := s.chan[ch].allocation.tally.filter fun t => t.mustRemap
    exec .analysisCompletion s = .next (((((marked.foldl (State.remapMarked ch) promoted).setAllocator
      { s.allocator with item := .idle }).analysisReport ch)).choose))
  ∧ (∀ (ch : Chan) (row : TallyEntry) (s : State),
    let states := s.chan[ch].allocation.reserve.getD row.bank.toNat []
    let absorbed := s.mapTable fun _ e => match e.repair? with
      | some r => if r.channel = ch ∧ r.bank = row.bank ∧ r.row = row.row ∧ r.isSubstitute = true then .free else e
      | none => e
    ((∀ st ∈ states, st ≠ .good) →
        State.remapMarked ch s row = s.onAllocation ch fun a =>
          { a with counters := { a.counters with shortfalls := Counter.inc a.counters.shortfalls } })
      ∧ ∀ (reserve : Nat) (i : Fin 64), states[reserve]? = some .good →
          (∀ j : Nat, j < reserve → states[j]? ≠ some .good) →
          absorbed.table[i] = .free → (∀ j : Fin 64, j < i → absorbed.table[j] ≠ .free) →
          State.remapMarked ch s row = (absorbed.setEntry i (.tentative
            { channel := ch, origin := .found, bank := row.bank, row := row.row, kind := .remap reserve })).onAllocation
              ch fun a => { a with reserve := setReserve a.reserve row.bank reserve .inUse })
  ∧ ∀ (ch : Chan) (s : State),
    let c := s.chan[ch]
    let element := elementAt s.store c.engine.position
    (c.engine.state ≠ .drain → s.analysisReport ch = s)
      ∧ (c.engine.state = .drain → element = .analyse →
          s.analysisReport ch = (s.onChan ch fun c => { c with
            engine := { c.engine with phase := .verify }
            control := { c.control with
              state := if c.control.state = .analysing then .verifying else c.control.state } }).takeElementAt ch
                (c.engine.position + 1))
      ∧ (c.engine.state = .drain → element = .finish → c.control.state = .analysing →
          s.analysisReport ch = (s.onChan ch fun c => { c with
            pins := { c.pins with toDevice := c.pins.toDevice ++ [.closeAll] }
            engine := { c.engine with banks := allClosed, state := .done }
            timers := { c.timers with refreshMode := .stopped, refreshElapsed := 0 } }).endRun ch)

/-! ## Arithmetic and the table -/

/-- A sweep visits positions 0 to N−1; position k is index (s + k) mod N going UP and (s − k) mod N going DOWN, both at s for
k = 0, and each index from 0 to N−1 is visited exactly once; so a sweep with any rotation visits every address of its phase
exactly once (R27). -/
def Obligations.SweepVisitsEachIndexOnce : Prop :=
  (∀ (size start : Nat), start < size →
    (∀ k : Nat, sweepIndex size start .up k = (start + k) % size)
      ∧ (∀ k : Nat, (sweepIndex size start .down k : Int) = ((start : Int) - k) % size)
      ∧ (∀ d : Direction, sweepIndex size start d 0 = start)
      ∧ ∀ (d : Direction) (i : Nat), i < size → ∃! k : Nat, k < size ∧ sweepIndex size start d k = i)
  ∧ ∀ (g : Geometry) (order : SweepOrder) (p : Phase) (d : Direction) (rotation : Nat),
      g.inRange = true → rotation ≤ 255 →
      ∀ a : Address, a.bank.toNat < 2 ^ g.b → a.column.toNat < 2 ^ g.c →
        a.row.toNat < (match p with
          | .raw => 2 ^ g.r
          | .verify => 2 ^ g.r - g.q) →
        ∃! k : Nat, k < sweepSize g p ∧ sweepAddress g order (newSweep g p d rotation) k = a

/-- The index is turned into an address by Table 2.1, one-to-one between the indices 0 to N−1 and the addresses of the phase, in
either order and either phase; a VERIFY sweep reaches no row above R−Q−1 (R25, R28). -/
def Obligations.IndexToAddressIsOneToOne : Prop :=
  ∀ (g : Geometry) (order : SweepOrder) (p : Phase), g.inRange = true →
    let rows := match p with
      | .raw => 2 ^ g.r
      | .verify => 2 ^ g.r - g.q
    let banks := 2 ^ g.b
    let columns := 2 ^ g.c
    sweepSize g p = banks * rows * columns
      ∧ (∀ i : Nat, i < sweepSize g p →
          let a := indexAddress g order rows i
          (match order with
            | .columnFast => a.column.toNat = i % columns ∧ a.bank.toNat = i / columns % banks
                ∧ a.row.toNat = i / (columns * banks)
            | .rowFast => a.column.toNat = i / rows % columns ∧ a.bank.toNat = i / (rows * columns)
                ∧ a.row.toNat = i % rows)
          ∧ a.bank.toNat < banks ∧ a.row.toNat < rows ∧ a.column.toNat < columns)
      ∧ ∀ a : Address, a.bank.toNat < banks → a.row.toNat < rows → a.column.toNat < columns →
          ∃! i : Nat, i < sweepSize g p ∧ indexAddress g order rows i = a

/-- The columns a SUBSTITUTE covers map one-to-one onto the spare offsets 0 to 2^m − 1, all below 8, for any span mask as the
loader clamps it; the entry's own column is the one at offset 0. A column matches that agrees in every position below c that is
not ignored, and the offset gathers the column's bits at the ignored positions in ascending order (R8, R35 to R38). -/
def Obligations.CoveredColumnsMapToOffsetsOneToOne : Prop :=
  ∀ (g : Geometry) (recorded : Nat) (column : Column), g.c ≤ 10 → column.toNat < 2 ^ g.c →
    let mask := clampMask g.c recorded
    let m := (ignoredPositions mask).length
    let base := normalisedColumn mask column
    let covers := fun x : Column => x.toNat < 2 ^ g.c ∧ columnMatches g mask base x = true
    m ≤ 3 ∧ covers column ∧ covers base ∧ spareOffset mask base = 0
      ∧ (∀ x : Column, covers x → (spareOffset mask x).val < 2 ^ m ∧ normalisedColumn mask x = base)
      ∧ (∀ n : Fin 8, n.val < 2 ^ m → ∃! x : Column, covers x ∧ spareOffset mask x = n)
      ∧ (∀ x y : Column, columnMatches g mask x y = true ↔
          ∀ n : Nat, n < g.c → mask.getLsbD n = false → x.getLsbD n = y.getLsbD n)
      ∧ ignoredPositions mask = (List.range 10).filter mask.getLsbD
      ∧ ∀ (x : Column) (j n : Nat), (ignoredPositions mask)[j]? = some n →
          (spareOffset mask x).val.testBit j = x.getLsbD n

/-- An operation expects the true word of Table 2.3, or its complement. SOLID, CHECKER, ROW_STRIPE, COLUMN_STRIPE and LANE_WALK
have the words of row and column, and STORED that of its pattern's spare line, or SOLID's where the line is unavailable. A RANDOM
word is made of the five values stepped from the pass seed and the address key, each in its bits, the pass seed being the seed
stepped once for each pass; and a nonzero value always steps to a nonzero one (R18, R30 to R33). -/
def Obligations.RandomWordIsStepped : Prop :=
  (∀ v : BitVec 16, v ≠ 0 → lfsrStep v ≠ 0)
    ∧ (∀ v : BitVec 16, lfsrStep v = if v.getLsbD 0 then (v >>> 1) ^^^ 0xB400#16 else v >>> 1)
    ∧ (∀ (seed : BitVec 16) (key : Nat),
      let x := seed ^^^ BitVec.ofNat 16 key
      let v0 := if x = 0 then 1 else x
      let word := randomWord seed key
      word.extractLsb' 56 16 = lfsrSteps 1 v0 ∧ word.extractLsb' 40 16 = lfsrSteps 2 v0
        ∧ word.extractLsb' 24 16 = lfsrSteps 3 v0 ∧ word.extractLsb' 8 16 = lfsrSteps 4 v0
        ∧ word.extractLsb' 0 8 = (lfsrSteps 5 v0).setWidth 8)
    ∧ (∀ v : BitVec 16, lfsrSteps 0 v = v ∧ ∀ n : Nat, lfsrSteps (n + 1) v = lfsrSteps n (lfsrStep v))
    ∧ (∀ (seed : BitVec 16) (pass : Nat), passSeedOf seed pass = lfsrSteps pass (if seed = 0 then 1 else seed))
    ∧ ∀ (ch : Chan) (m : March) (o : Op) (a : Address) (s : State),
      let c := s.chan[ch]
      elementAt s.store c.engine.position = .march m →
      let row := a.row.toNat
      let column := a.column.toNat
      let parity := fun n : Nat => if n % 2 = 0 then (0 : Word) else BitVec.allOnes 72
      let expects := fun word : Word =>
        s.expectedWord ch o a = if o = .readInverse ∨ o = .writeInverse then ~~~word else word
      (m.background = .solid → expects 0)
        ∧ (m.background = .checker → expects (parity (row + column)))
        ∧ (m.background = .rowStripe → expects (parity row))
        ∧ (m.background = .columnStripe → expects (parity column))
        ∧ (m.background = .laneWalk → ∀ word : Word,
            (∀ n : Nat, n < 72 → word.getLsbD n = decide (n / 8 = column % 9)) → expects word)
        ∧ (∀ (i : Fin 64) (w : Fin 8), m.background = .stored → c.patterns[m.pattern] = .lent →
            i.val = 56 + m.pattern.val → w.val = column % 8 → expects s.spare[i][w])
        ∧ (m.background = .stored → c.patterns[m.pattern] = .unavailable → expects 0)
        ∧ ∀ (st : Settings) (seed : BitVec 16), m.background = .random → c.setup.settings = some st →
            c.engine.passSeed = some seed →
            expects (randomWord seed ((a.bank.toNat * 2 ^ st.geometry.r + row) * 2 ^ st.geometry.c + column))

/-- A lookup's result is the entry with the lowest index among those that take part and match; with none it has no result. The row
that is opened is R − Q plus the reserve index that the lookup finds, or the row itself. A creation takes the FREE entry with the
lowest index, or reports table full and changes nothing: a SUBSTITUTE's column is normalised and its line zeroed, and a REMAP
leaves the line as it was. A scope ignores no position, mask A or mask B (R5, R10, R11, R35 to R40). -/
def Obligations.LookupAndCreationTakeLowestIndex : Prop :=
  ∀ (s : State) (who : Accessor) (ch : Chan) (bank : Bank) (row : Row) (column : Column),
    let c := s.chan[ch]
    let takesPart := fun (i : Fin 64) (r : Repair) =>
      (s.table[i] = .active r ∨ s.table[i] = .tentative r ∧ who = .proving)
        ∧ r.channel = ch ∧ r.bank = bank ∧ r.row = row
    let matches_ := fun (i : Fin 64) (scope : Scope) => ∃ (r : Repair) (base : Column), takesPart i r
      ∧ r.kind = .substitute base scope ∧ columnMatches c.geometry (c.ignored scope) base column = true
    (∀ (i : Fin 64) (w : Fin 8), s.wordLookup who ch bank row column = some (i, w) ↔
        ∃ scope : Scope, matches_ i scope ∧ w = spareOffset (c.ignored scope) column
          ∧ ∀ (j : Fin 64) (other : Scope), j < i → ¬ matches_ j other)
      ∧ (∀ reserve : Nat, s.rowLookup who ch bank row = some reserve ↔
          ∃ (i : Fin 64) (r : Repair), takesPart i r ∧ r.kind = .remap reserve
            ∧ ∀ (j : Fin 64) (q : Repair) (n : Nat), j < i → ¬ (takesPart j q ∧ q.kind = .remap n))
      ∧ (∀ (r : Repair) (base : Column) (scope : Scope), r.kind = .substitute base scope →
          (∀ i : Fin 64, s.table[i] = .free → (∀ j : Fin 64, j < i → s.table[j] ≠ .free) →
            s.create r = some ((s.setEntry i (.tentative { r with
              kind := .substitute (base &&& ~~~(s.chan[r.channel].ignored scope)) scope })).setLine i
                (Vector.replicate 8 0)))
          ∧ ((∀ i : Fin 64, s.table[i] ≠ .free) → s.create r = none))
      ∧ (∀ (r : Repair) (reserve : Nat), r.kind = .remap reserve →
          (∀ i : Fin 64, s.table[i] = .free → (∀ j : Fin 64, j < i → s.table[j] ≠ .free) →
            s.create r = some (s.setEntry i (.tentative r)))
          ∧ ((∀ i : Fin 64, s.table[i] ≠ .free) → s.create r = none))
      ∧ (s.rowLookup who ch bank row = none → s.physicalRow who ch bank row = row)
      ∧ (∀ (st : Settings) (reserve : Nat), c.setup.settings = some st → s.rowLookup who ch bank row = some reserve →
          s.physicalRow who ch bank row = BitVec.ofNat 16 (2 ^ st.geometry.r - st.geometry.q + reserve))
      ∧ c.ignored .exact = 0
      ∧ ∀ st : Settings, c.setup.settings = some st → c.ignored .spanA = st.maskA ∧ c.ignored .spanB = st.maskB

/-- Validation accepts a program at its first END, and refuses it at the first record at which a reason of Table 4.2 applies, or
with NO_END. The plan lists the path, the phase boundary, the repeat spans and the patterns named. Its chains hold every MARCH
element of the path exactly once, in order; each chain is a run of neighbouring indices of one background, in one repeat span or
none, with at most 8 operations, and holds the next element exactly when the join to it is asked for and meets the five
conditions. The joins ignored are the joined flags whose next element is not in the chain. A chain's operations are its elements'
operations in order, each element's being its slots up to the first NONE. That a REPEAT with n at least 1 and k = 0 has no repeat
span, so that it bars no join by the fourth condition, is the model's choice (notes/assumptions/23.md)
(R18, R65, R68, R71, R73 to R77). -/
def Obligations.ChainsPartitionThePath : Prop :=
  (∀ (store : Vector Element 64) (start : Nat), start ≤ 63 →
    (∀ finish : Nat, validate store start = .ok finish ↔ start ≤ finish ∧ finish ≤ 63
        ∧ elementAt store finish = .finish ∧ ∀ i : Nat, start ≤ i → i < finish → ReadsOn store start i)
      ∧ ∀ reason : SettingsError, validate store start = .error reason ↔
          (∃ j : Nat, start ≤ j ∧ j ≤ 63 ∧ RefusedAt store start j reason
            ∧ ∀ i : Nat, start ≤ i → i < j → ReadsOn store start i)
          ∨ reason = .noEnd ∧ ∀ i : Nat, start ≤ i → i ≤ 63 → ReadsOn store start i)
  ∧ (∀ m : March, ∃ rest : List (Option Op), m.slots = m.ops.map some ++ rest
      ∧ (rest = [] ∨ rest.head? = some none))
  ∧ (∀ (store : Vector Element 64) (i : Nat) (chain : List Nat), chainOps store [] = []
      ∧ ((∀ m : March, elementAt store i ≠ .march m) → chainOps store (i :: chain) = chainOps store chain)
      ∧ ∀ m : March, elementAt store i = .march m →
          chainOps store (i :: chain) = (m.ops.map fun o => (i, o)) ++ chainOps store chain)
  ∧ ∀ (image : List Byte) (start finish : Nat),
    let store := storeOf image
    let plan := buildPlan store start finish
    let onPath := List.range' start (finish + 1 - start)
    PlanDescribes store start finish plan
      ∧ plan.chains.flatten = onPath.filter (fun j => (elementAt store j).isMarch)
      ∧ (∀ chain ∈ plan.chains, chain ≠ [] ∧ (chainOps store chain).length ≤ 8
          ∧ (∀ j ∈ chain, j + 1 ∈ chain ↔ JoinHolds store plan.spans finish chain j)
          ∧ ∀ first : Nat, chain.head? = some first → chain = List.range' first chain.length
            ∧ ∀ j ∈ chain, spanOf plan.spans j = spanOf plan.spans first
              ∧ ∃ m n : March, elementAt store first = .march m ∧ elementAt store j = .march n
                ∧ m.background = n.background ∧ (m.background = .random → m.seed = n.seed)
                ∧ (m.background = .stored → m.pattern = n.pattern))
      ∧ plan.joinsIgnored = (onPath.filter fun j => (elementAt store j).asksJoin
          && !(plan.chains.any fun chain => chain.contains j && chain.contains (j + 1))).length

/-! ## The laws -/

/-- Every step keeps the law of the read return list (R50, R53, R59). -/
def Obligations.StepKeepsReturnListLaw : Prop :=
  ∀ s t : State, s.ReturnListLaw → step s = .next t → t.ReturnListLaw

/-- Every step keeps the law of the Fail Queue (R89, R116). -/
def Obligations.StepKeepsFailQueueLaw : Prop :=
  ∀ s t : State, s.FailQueueLaw → step s = .next t → t.FailQueueLaw

/-- Every step keeps the law of the tally (R132). -/
def Obligations.StepKeepsTallyLaw : Prop := ∀ s t : State, s.TallyLaw → step s = .next t → t.TallyLaw

/-- Every step keeps the law of the pattern lines (R1, R21). -/
def Obligations.StepKeepsPatternLineLaw : Prop :=
  ∀ s t : State, s.PatternLineLaw → step s = .next t → t.PatternLineLaw

/-- Every step keeps the law of the reserve rows (R134). -/
def Obligations.StepKeepsReserveRowLaw : Prop :=
  ∀ s t : State, s.ReserveRowLaw → step s = .next t → t.ReserveRowLaw

/-- Every step leaves an idle allocator only without work before it (R126). -/
def Obligations.StepKeepsChoiceLaw : Prop := ∀ s t : State, s.ChoiceLaw → step s = .next t → t.ChoiceLaw

/-- Every step keeps the laws of a run: the tokens held never exceed K and match the engines' states, the queue and the analysis
request of a channel are work only of a started run, and a channel in SERVICE has no TENTATIVE entry and one in DISABLED no
valid entry (R80, R111, R113, R126, R156). -/
def Obligations.StepKeepsRunLaw : Prop := ∀ s t : State, s.RunLaw → step s = .next t → t.RunLaw

/-- Every law holds right after power-on reset (R22, R45, R111, R116, R125, R132, R144). -/
def Obligations.LawsHoldAtReset : Prop :=
  State.reset.ReturnListLaw ∧ State.reset.FailQueueLaw ∧ State.reset.TallyLaw ∧ State.reset.PatternLineLaw
    ∧ State.reset.ReserveRowLaw ∧ State.reset.ChoiceLaw ∧ State.reset.RunLaw

/-! ## The machine as a whole -/

/-- Once the loader is FINISHED, only a reset or a RETEST of the channel takes it out of SERVICE, so only they lower its READY
(R145). -/
def Obligations.OnlyResetOrRetestEndsService : Prop :=
  ∀ (c : Instr) (ch : Chan) (s t : State), s.loader.phase = .finished → s.ready ch = true →
    endsService ch c = false → exec c s = .next t → t.ready ch = true

/-- While a channel is in SERVICE, with no work of its own at the allocator, no command but a reset or its RETEST creates, releases
or changes an entry of it (R6). -/
def Obligations.EntriesAreFixedInService : Prop :=
  ∀ (c : Instr) (ch : Chan) (s t : State), s.loader.phase = .finished → s.ready ch = true →
    s.allocator.item.serves ch = false → s.allocator.item.analyses ch = false →
    s.chan[ch].engine.state.active = false → s.chan[ch].engine.reading = false →
    endsService ch c = false → exec c s = .next t →
    ∀ i : Fin 64, (s.table[i].belongsTo ch = true ∨ t.table[i].belongsTo ch = true) → t.table[i] = s.table[i]
end

