-- ==== Sys2Proof/Laws/Numbers.lean ====
section
/-! SUPPORT. Numbers: what a saturating counter holds after it grows, the bytes of a number and the field read back from
them, and the lanes of a merged word. -/

namespace Sys2Proof

/-- A saturating counter grown by `n` (spec/00_scope.md, "Counters"). -/
theorem Counter.add_toNat {w : Nat} (c : Counter w) (n : Nat) :
    (Counter.add c n).toNat = min (c.toNat + n) (2 ^ w - 1) := by
  have h : 0 < 2 ^ w := Nat.two_pow_pos w
  simp only [Counter.add, BitVec.toNat_ofNat]
  exact Nat.mod_eq_of_lt (by omega)

theorem Counter.inc_toNat {w : Nat} (c : Counter w) : (Counter.inc c).toNat = min (c.toNat + 1) (2 ^ w - 1) :=
  Counter.add_toNat c 1

@[simp] theorem Counter.add_zero {w : Nat} (c : Counter w) : Counter.add c 0 = c := by
  apply BitVec.eq_of_toNat_eq
  rw [Counter.add_toNat]
  have h := c.isLt
  omega

/-- A counter never falls by growing. -/
theorem Counter.le_add {w : Nat} (c : Counter w) (n : Nat) : c.toNat ≤ (Counter.add c n).toNat := by
  rw [Counter.add_toNat]
  have h := c.isLt
  omega

namespace Machine

/-! ## Bytes and fields -/

@[simp] theorem numberBytes_length : ∀ n v : Nat, (numberBytes n v).length = n
  | 0, _ => rfl
  | n + 1, v => by rw [numberBytes, List.length_cons, numberBytes_length n]

theorem byteAt_append_right (a b : List Byte) (i : Nat) : byteAt (a ++ b) (a.length + i) = byteAt b i := by
  rw [byteAt, byteAt, List.getD_eq_getElem?_getD, List.getD_eq_getElem?_getD, List.getElem?_append_right (by omega)]
  congr 3
  omega

theorem byteAt_append_left (a b : List Byte) {i : Nat} (h : i < a.length) : byteAt (a ++ b) i = byteAt a i := by
  rw [byteAt, byteAt, List.getD_eq_getElem?_getD, List.getD_eq_getElem?_getD, List.getElem?_append_left h]

/-- A field beyond the first part of a reply is a field of the rest. -/
theorem fieldAt_append_right (a b : List Byte) (i n : Nat) : fieldAt (a ++ b) (a.length + i) n = fieldAt b i n := by
  induction n generalizing i with
  | zero => rfl
  | succ n ih => rw [fieldAt, fieldAt, byteAt_append_right, Nat.add_assoc, ih]

theorem fieldAt_cons_succ (a : Byte) (l : List Byte) (i n : Nat) : fieldAt (a :: l) (i + 1) n = fieldAt l i n := by
  have h := fieldAt_append_right [a] l i n
  rwa [List.length_singleton, Nat.add_comm] at h

/-- The field at the start of a number's bytes is the number, in their width. -/
theorem fieldAt_numberBytes (n v : Nat) (rest : List Byte) : fieldAt (numberBytes n v ++ rest) 0 n = v % 256 ^ n := by
  induction n generalizing v with
  | zero => rw [Nat.pow_zero, Nat.mod_one]; rfl
  | succ n ih =>
    have h : byteAt (numberBytes (n + 1) v ++ rest) 0 = v % 256 := by simp [numberBytes, byteAt]
    rw [fieldAt, h, numberBytes, List.cons_append, fieldAt_cons_succ, ih, Nat.pow_succ, Nat.mul_comm (256 ^ n) 256,
      Nat.mod_mul]

/-- A field after a number's bytes is a field of what follows them. -/
theorem fieldAt_skip (n v : Nat) (rest : List Byte) {i : Nat} (m : Nat) (h : n ≤ i) :
    fieldAt (numberBytes n v ++ rest) i m = fieldAt rest (i - n) m := by
  have e := fieldAt_append_right (numberBytes n v) rest (i - n) m
  rwa [numberBytes_length, Nat.add_sub_cancel' h] at e

/-! ## Lanes (R57) -/

/-- A lane's word has exactly the lane's bits. -/
theorem laneWord_bit : ∀ lane : Fin 9, ∀ k : Fin 72, (laneWord lane.val).getLsbD k.val = (lane.val == k.val / 8) := by
  decide +kernel

/-- The bits gathered by a fold over lanes. -/
theorem foldl_lanes_bit (lanes : Lanes) (k : Nat) (l : List Nat) (m : Word) :
    (l.foldl (fun m j => if lanes.getLsbD j then m ||| laneWord j else m) m).getLsbD k
      = (m.getLsbD k || l.any fun j => lanes.getLsbD j && (laneWord j).getLsbD k) := by
  induction l generalizing m with
  | nil => simp
  | cons j l ih =>
    rw [List.foldl_cons, ih, List.any_cons]
    cases lanes.getLsbD j <;> simp [Bool.or_assoc]

/-- Bit `k` of a set of lanes' mask is the bit of its lane. -/
theorem laneMask_bit (lanes : Lanes) {k : Nat} (hk : k < 72) : (laneMask lanes).getLsbD k = lanes.getLsbD (k / 8) := by
  rw [laneMask, foldl_lanes_bit, Bool.eq_iff_iff]
  simp only [BitVec.ofNat_eq_ofNat, BitVec.getLsbD_zero, Bool.false_or, List.any_eq_true, List.mem_range,
    Bool.and_eq_true]
  constructor
  · rintro ⟨j, hj, h1, h2⟩
    have h := laneWord_bit ⟨j, hj⟩ ⟨k, hk⟩
    simp only at h
    rw [h2, eq_comm, beq_iff_eq] at h
    rwa [← h]
  · intro h
    refine ⟨k / 8, by omega, h, ?_⟩
    simpa using laneWord_bit ⟨k / 8, by omega⟩ ⟨k, hk⟩

/-- A merged word has the new word's bits in the enabled lanes and the old word's in the others. -/
theorem mergeLanes_bit (old new : Word) (lanes : Lanes) {k : Nat} (hk : k < 72) :
    (mergeLanes old new lanes).getLsbD k = if lanes.getLsbD (k / 8) then new.getLsbD k else old.getLsbD k := by
  simp only [mergeLanes, BitVec.getLsbD_or, BitVec.getLsbD_and, BitVec.getLsbD_not, laneMask_bit _ hk]
  cases lanes.getLsbD (k / 8) <;> simp [hk]

/-- With every lane enabled the new word is what is stored (R88). -/
@[simp] theorem mergeLanes_all (old new : Word) : mergeLanes old new allLanes = new := by
  have h : laneMask allLanes = BitVec.allOnes 72 := by decide +kernel
  simp only [mergeLanes, h, BitVec.and_allOnes, BitVec.not_allOnes, BitVec.and_zero, BitVec.or_zero]

end Machine

end Sys2Proof
end

