-- ==== Sys2Proof/Laws/State.lean ====
section
/-! SUPPORT. One lemma for each field under each update of `State`, true by `rfl`, so that no proof unfolds a record
update. An update that writes a part of one channel has its effect on every channel stated once, in two lemmas:
the channel written, and any other. -/

namespace Sys2Proof.Machine

/-! ## Updates of one field -/

@[simp] theorem State.setArbiter_chan (s : State) (a : Arbiter) : (s.setArbiter a).chan = s.chan := rfl
@[simp] theorem State.setArbiter_table (s : State) (a : Arbiter) : (s.setArbiter a).table = s.table := rfl
@[simp] theorem State.setArbiter_spare (s : State) (a : Arbiter) : (s.setArbiter a).spare = s.spare := rfl
@[simp] theorem State.setArbiter_store (s : State) (a : Arbiter) : (s.setArbiter a).store = s.store := rfl
@[simp] theorem State.setArbiter_arbiter (s : State) (a : Arbiter) : (s.setArbiter a).arbiter = a := rfl
@[simp] theorem State.setArbiter_allocator (s : State) (a : Arbiter) : (s.setArbiter a).allocator = s.allocator := rfl
@[simp] theorem State.setArbiter_loader (s : State) (a : Arbiter) : (s.setArbiter a).loader = s.loader := rfl
@[simp] theorem State.setArbiter_reply (s : State) (a : Arbiter) : (s.setArbiter a).reply = s.reply := rfl
@[simp] theorem State.setArbiter_spiOut (s : State) (a : Arbiter) : (s.setArbiter a).spiOut = s.spiOut := rfl
@[simp] theorem State.setArbiter_pending (s : State) (a : Arbiter) : (s.setArbiter a).pending = s.pending := rfl

@[simp] theorem State.setAllocator_chan (s : State) (a : Allocator) : (s.setAllocator a).chan = s.chan := rfl
@[simp] theorem State.setAllocator_table (s : State) (a : Allocator) : (s.setAllocator a).table = s.table := rfl
@[simp] theorem State.setAllocator_spare (s : State) (a : Allocator) : (s.setAllocator a).spare = s.spare := rfl
@[simp] theorem State.setAllocator_store (s : State) (a : Allocator) : (s.setAllocator a).store = s.store := rfl
@[simp] theorem State.setAllocator_arbiter (s : State) (a : Allocator) : (s.setAllocator a).arbiter = s.arbiter := rfl
@[simp] theorem State.setAllocator_allocator (s : State) (a : Allocator) : (s.setAllocator a).allocator = a := rfl
@[simp] theorem State.setAllocator_loader (s : State) (a : Allocator) : (s.setAllocator a).loader = s.loader := rfl
@[simp] theorem State.setAllocator_reply (s : State) (a : Allocator) : (s.setAllocator a).reply = s.reply := rfl
@[simp] theorem State.setAllocator_spiOut (s : State) (a : Allocator) : (s.setAllocator a).spiOut = s.spiOut := rfl
@[simp] theorem State.setAllocator_pending (s : State) (a : Allocator) : (s.setAllocator a).pending = s.pending := rfl

@[simp] theorem State.setLoader_chan (s : State) (l : Loader) : (s.setLoader l).chan = s.chan := rfl
@[simp] theorem State.setLoader_table (s : State) (l : Loader) : (s.setLoader l).table = s.table := rfl
@[simp] theorem State.setLoader_spare (s : State) (l : Loader) : (s.setLoader l).spare = s.spare := rfl
@[simp] theorem State.setLoader_store (s : State) (l : Loader) : (s.setLoader l).store = s.store := rfl
@[simp] theorem State.setLoader_arbiter (s : State) (l : Loader) : (s.setLoader l).arbiter = s.arbiter := rfl
@[simp] theorem State.setLoader_allocator (s : State) (l : Loader) : (s.setLoader l).allocator = s.allocator := rfl
@[simp] theorem State.setLoader_loader (s : State) (l : Loader) : (s.setLoader l).loader = l := rfl
@[simp] theorem State.setLoader_reply (s : State) (l : Loader) : (s.setLoader l).reply = s.reply := rfl
@[simp] theorem State.setLoader_spiOut (s : State) (l : Loader) : (s.setLoader l).spiOut = s.spiOut := rfl
@[simp] theorem State.setLoader_pending (s : State) (l : Loader) : (s.setLoader l).pending = s.pending := rfl

@[simp] theorem State.setStore_chan (s : State) (e : Vector Element 64) : (s.setStore e).chan = s.chan := rfl
@[simp] theorem State.setStore_table (s : State) (e : Vector Element 64) : (s.setStore e).table = s.table := rfl
@[simp] theorem State.setStore_spare (s : State) (e : Vector Element 64) : (s.setStore e).spare = s.spare := rfl
@[simp] theorem State.setStore_store (s : State) (e : Vector Element 64) : (s.setStore e).store = e := rfl
@[simp] theorem State.setStore_arbiter (s : State) (e : Vector Element 64) : (s.setStore e).arbiter = s.arbiter := rfl
@[simp] theorem State.setStore_allocator (s : State) (e : Vector Element 64) : (s.setStore e).allocator = s.allocator := rfl
@[simp] theorem State.setStore_loader (s : State) (e : Vector Element 64) : (s.setStore e).loader = s.loader := rfl
@[simp] theorem State.setStore_reply (s : State) (e : Vector Element 64) : (s.setStore e).reply = s.reply := rfl
@[simp] theorem State.setStore_spiOut (s : State) (e : Vector Element 64) : (s.setStore e).spiOut = s.spiOut := rfl
@[simp] theorem State.setStore_pending (s : State) (e : Vector Element 64) : (s.setStore e).pending = s.pending := rfl

@[simp] theorem State.setReply_chan (s : State) (r : List Byte) : (s.setReply r).chan = s.chan := rfl
@[simp] theorem State.setReply_table (s : State) (r : List Byte) : (s.setReply r).table = s.table := rfl
@[simp] theorem State.setReply_spare (s : State) (r : List Byte) : (s.setReply r).spare = s.spare := rfl
@[simp] theorem State.setReply_store (s : State) (r : List Byte) : (s.setReply r).store = s.store := rfl
@[simp] theorem State.setReply_arbiter (s : State) (r : List Byte) : (s.setReply r).arbiter = s.arbiter := rfl
@[simp] theorem State.setReply_allocator (s : State) (r : List Byte) : (s.setReply r).allocator = s.allocator := rfl
@[simp] theorem State.setReply_loader (s : State) (r : List Byte) : (s.setReply r).loader = s.loader := rfl
@[simp] theorem State.setReply_reply (s : State) (r : List Byte) : (s.setReply r).reply = r := rfl
@[simp] theorem State.setReply_spiOut (s : State) (r : List Byte) : (s.setReply r).spiOut = s.spiOut := rfl
@[simp] theorem State.setReply_pending (s : State) (r : List Byte) : (s.setReply r).pending = s.pending := rfl

@[simp] theorem State.setSpiOut_chan (s : State) (b : List Byte) : (s.setSpiOut b).chan = s.chan := rfl
@[simp] theorem State.setSpiOut_table (s : State) (b : List Byte) : (s.setSpiOut b).table = s.table := rfl
@[simp] theorem State.setSpiOut_spare (s : State) (b : List Byte) : (s.setSpiOut b).spare = s.spare := rfl
@[simp] theorem State.setSpiOut_store (s : State) (b : List Byte) : (s.setSpiOut b).store = s.store := rfl
@[simp] theorem State.setSpiOut_arbiter (s : State) (b : List Byte) : (s.setSpiOut b).arbiter = s.arbiter := rfl
@[simp] theorem State.setSpiOut_allocator (s : State) (b : List Byte) : (s.setSpiOut b).allocator = s.allocator := rfl
@[simp] theorem State.setSpiOut_loader (s : State) (b : List Byte) : (s.setSpiOut b).loader = s.loader := rfl
@[simp] theorem State.setSpiOut_reply (s : State) (b : List Byte) : (s.setSpiOut b).reply = s.reply := rfl
@[simp] theorem State.setSpiOut_spiOut (s : State) (b : List Byte) : (s.setSpiOut b).spiOut = b := rfl
@[simp] theorem State.setSpiOut_pending (s : State) (b : List Byte) : (s.setSpiOut b).pending = s.pending := rfl

@[simp] theorem State.setPending_chan (s : State) (q : List Instr) : (s.setPending q).chan = s.chan := rfl
@[simp] theorem State.setPending_table (s : State) (q : List Instr) : (s.setPending q).table = s.table := rfl
@[simp] theorem State.setPending_spare (s : State) (q : List Instr) : (s.setPending q).spare = s.spare := rfl
@[simp] theorem State.setPending_store (s : State) (q : List Instr) : (s.setPending q).store = s.store := rfl
@[simp] theorem State.setPending_arbiter (s : State) (q : List Instr) : (s.setPending q).arbiter = s.arbiter := rfl
@[simp] theorem State.setPending_allocator (s : State) (q : List Instr) : (s.setPending q).allocator = s.allocator := rfl
@[simp] theorem State.setPending_loader (s : State) (q : List Instr) : (s.setPending q).loader = s.loader := rfl
@[simp] theorem State.setPending_reply (s : State) (q : List Instr) : (s.setPending q).reply = s.reply := rfl
@[simp] theorem State.setPending_spiOut (s : State) (q : List Instr) : (s.setPending q).spiOut = s.spiOut := rfl
@[simp] theorem State.setPending_pending (s : State) (q : List Instr) : (s.setPending q).pending = q := rfl

/-! ## Updates of one entry, one line, every entry -/

@[simp] theorem State.setEntry_chan (s : State) (i : Fin 64) (e : Entry) : (s.setEntry i e).chan = s.chan := rfl
@[simp] theorem State.setEntry_spare (s : State) (i : Fin 64) (e : Entry) : (s.setEntry i e).spare = s.spare := rfl
@[simp] theorem State.setEntry_store (s : State) (i : Fin 64) (e : Entry) : (s.setEntry i e).store = s.store := rfl
@[simp] theorem State.setEntry_arbiter (s : State) (i : Fin 64) (e : Entry) : (s.setEntry i e).arbiter = s.arbiter := rfl
@[simp] theorem State.setEntry_allocator (s : State) (i : Fin 64) (e : Entry) : (s.setEntry i e).allocator = s.allocator := rfl
@[simp] theorem State.setEntry_loader (s : State) (i : Fin 64) (e : Entry) : (s.setEntry i e).loader = s.loader := rfl
@[simp] theorem State.setEntry_reply (s : State) (i : Fin 64) (e : Entry) : (s.setEntry i e).reply = s.reply := rfl
@[simp] theorem State.setEntry_spiOut (s : State) (i : Fin 64) (e : Entry) : (s.setEntry i e).spiOut = s.spiOut := rfl
@[simp] theorem State.setEntry_pending (s : State) (i : Fin 64) (e : Entry) : (s.setEntry i e).pending = s.pending := rfl

@[simp] theorem State.setLine_chan (s : State) (i : Fin 64) (l : Line) : (s.setLine i l).chan = s.chan := rfl
@[simp] theorem State.setLine_table (s : State) (i : Fin 64) (l : Line) : (s.setLine i l).table = s.table := rfl
@[simp] theorem State.setLine_store (s : State) (i : Fin 64) (l : Line) : (s.setLine i l).store = s.store := rfl
@[simp] theorem State.setLine_arbiter (s : State) (i : Fin 64) (l : Line) : (s.setLine i l).arbiter = s.arbiter := rfl
@[simp] theorem State.setLine_allocator (s : State) (i : Fin 64) (l : Line) : (s.setLine i l).allocator = s.allocator := rfl
@[simp] theorem State.setLine_loader (s : State) (i : Fin 64) (l : Line) : (s.setLine i l).loader = s.loader := rfl
@[simp] theorem State.setLine_reply (s : State) (i : Fin 64) (l : Line) : (s.setLine i l).reply = s.reply := rfl
@[simp] theorem State.setLine_spiOut (s : State) (i : Fin 64) (l : Line) : (s.setLine i l).spiOut = s.spiOut := rfl
@[simp] theorem State.setLine_pending (s : State) (i : Fin 64) (l : Line) : (s.setLine i l).pending = s.pending := rfl

@[simp] theorem State.mapTable_chan (s : State) (h : Fin 64 → Entry → Entry) : (s.mapTable h).chan = s.chan := by simp only [State.mapTable]
@[simp] theorem State.mapTable_spare (s : State) (h : Fin 64 → Entry → Entry) : (s.mapTable h).spare = s.spare := by simp only [State.mapTable]
@[simp] theorem State.mapTable_store (s : State) (h : Fin 64 → Entry → Entry) : (s.mapTable h).store = s.store := by simp only [State.mapTable]
@[simp] theorem State.mapTable_arbiter (s : State) (h : Fin 64 → Entry → Entry) : (s.mapTable h).arbiter = s.arbiter := by simp only [State.mapTable]
@[simp] theorem State.mapTable_allocator (s : State) (h : Fin 64 → Entry → Entry) : (s.mapTable h).allocator = s.allocator := by simp only [State.mapTable]
@[simp] theorem State.mapTable_loader (s : State) (h : Fin 64 → Entry → Entry) : (s.mapTable h).loader = s.loader := by simp only [State.mapTable]
@[simp] theorem State.mapTable_reply (s : State) (h : Fin 64 → Entry → Entry) : (s.mapTable h).reply = s.reply := by simp only [State.mapTable]
@[simp] theorem State.mapTable_spiOut (s : State) (h : Fin 64 → Entry → Entry) : (s.mapTable h).spiOut = s.spiOut := by simp only [State.mapTable]
@[simp] theorem State.mapTable_pending (s : State) (h : Fin 64 → Entry → Entry) : (s.mapTable h).pending = s.pending := by simp only [State.mapTable]

@[simp] theorem State.setEntry_table (s : State) (i j : Fin 64) (e : Entry) :
    (s.setEntry i e).table[j.val] = if i = j then e else s.table[j.val] := by
  simp [State.setEntry, Vector.getElem_set, Fin.ext_iff]

@[simp] theorem State.setLine_spare (s : State) (i j : Fin 64) (l : Line) :
    (s.setLine i l).spare[j.val] = if i = j then l else s.spare[j.val] := by
  simp [State.setLine, Vector.getElem_set, Fin.ext_iff]

@[simp] theorem State.mapTable_table (s : State) (h : Fin 64 → Entry → Entry) (j : Fin 64) :
    (s.mapTable h).table[j.val] = h j s.table[j.val] := by
  simp [State.mapTable]

/-! ## Updates of the channels -/

@[simp] theorem State.onChan_table (s : State) (ch : Chan) (f : Channel → Channel) : (s.onChan ch f).table = s.table := rfl
@[simp] theorem State.onChan_spare (s : State) (ch : Chan) (f : Channel → Channel) : (s.onChan ch f).spare = s.spare := rfl
@[simp] theorem State.onChan_store (s : State) (ch : Chan) (f : Channel → Channel) : (s.onChan ch f).store = s.store := rfl
@[simp] theorem State.onChan_arbiter (s : State) (ch : Chan) (f : Channel → Channel) : (s.onChan ch f).arbiter = s.arbiter := rfl
@[simp] theorem State.onChan_allocator (s : State) (ch : Chan) (f : Channel → Channel) : (s.onChan ch f).allocator = s.allocator := rfl
@[simp] theorem State.onChan_loader (s : State) (ch : Chan) (f : Channel → Channel) : (s.onChan ch f).loader = s.loader := rfl
@[simp] theorem State.onChan_reply (s : State) (ch : Chan) (f : Channel → Channel) : (s.onChan ch f).reply = s.reply := rfl
@[simp] theorem State.onChan_spiOut (s : State) (ch : Chan) (f : Channel → Channel) : (s.onChan ch f).spiOut = s.spiOut := rfl
@[simp] theorem State.onChan_pending (s : State) (ch : Chan) (f : Channel → Channel) : (s.onChan ch f).pending = s.pending := rfl

@[simp] theorem State.mapChan_table (s : State) (f : Chan → Channel → Channel) : (s.mapChan f).table = s.table := rfl
@[simp] theorem State.mapChan_spare (s : State) (f : Chan → Channel → Channel) : (s.mapChan f).spare = s.spare := rfl
@[simp] theorem State.mapChan_store (s : State) (f : Chan → Channel → Channel) : (s.mapChan f).store = s.store := rfl
@[simp] theorem State.mapChan_arbiter (s : State) (f : Chan → Channel → Channel) : (s.mapChan f).arbiter = s.arbiter := rfl
@[simp] theorem State.mapChan_allocator (s : State) (f : Chan → Channel → Channel) : (s.mapChan f).allocator = s.allocator := rfl
@[simp] theorem State.mapChan_loader (s : State) (f : Chan → Channel → Channel) : (s.mapChan f).loader = s.loader := rfl
@[simp] theorem State.mapChan_reply (s : State) (f : Chan → Channel → Channel) : (s.mapChan f).reply = s.reply := rfl
@[simp] theorem State.mapChan_spiOut (s : State) (f : Chan → Channel → Channel) : (s.mapChan f).spiOut = s.spiOut := rfl
@[simp] theorem State.mapChan_pending (s : State) (f : Chan → Channel → Channel) : (s.mapChan f).pending = s.pending := rfl

@[simp] theorem State.onEngine_table (s : State) (ch : Chan) (f : Engine → Engine) : (s.onEngine ch f).table = s.table := rfl
@[simp] theorem State.onEngine_spare (s : State) (ch : Chan) (f : Engine → Engine) : (s.onEngine ch f).spare = s.spare := rfl
@[simp] theorem State.onEngine_store (s : State) (ch : Chan) (f : Engine → Engine) : (s.onEngine ch f).store = s.store := rfl
@[simp] theorem State.onEngine_arbiter (s : State) (ch : Chan) (f : Engine → Engine) : (s.onEngine ch f).arbiter = s.arbiter := rfl
@[simp] theorem State.onEngine_allocator (s : State) (ch : Chan) (f : Engine → Engine) : (s.onEngine ch f).allocator = s.allocator := rfl
@[simp] theorem State.onEngine_loader (s : State) (ch : Chan) (f : Engine → Engine) : (s.onEngine ch f).loader = s.loader := rfl
@[simp] theorem State.onEngine_reply (s : State) (ch : Chan) (f : Engine → Engine) : (s.onEngine ch f).reply = s.reply := rfl
@[simp] theorem State.onEngine_spiOut (s : State) (ch : Chan) (f : Engine → Engine) : (s.onEngine ch f).spiOut = s.spiOut := rfl
@[simp] theorem State.onEngine_pending (s : State) (ch : Chan) (f : Engine → Engine) : (s.onEngine ch f).pending = s.pending := rfl

@[simp] theorem State.onPath_table (s : State) (ch : Chan) (f : Path → Path) : (s.onPath ch f).table = s.table := rfl
@[simp] theorem State.onPath_spare (s : State) (ch : Chan) (f : Path → Path) : (s.onPath ch f).spare = s.spare := rfl
@[simp] theorem State.onPath_store (s : State) (ch : Chan) (f : Path → Path) : (s.onPath ch f).store = s.store := rfl
@[simp] theorem State.onPath_arbiter (s : State) (ch : Chan) (f : Path → Path) : (s.onPath ch f).arbiter = s.arbiter := rfl
@[simp] theorem State.onPath_allocator (s : State) (ch : Chan) (f : Path → Path) : (s.onPath ch f).allocator = s.allocator := rfl
@[simp] theorem State.onPath_loader (s : State) (ch : Chan) (f : Path → Path) : (s.onPath ch f).loader = s.loader := rfl
@[simp] theorem State.onPath_reply (s : State) (ch : Chan) (f : Path → Path) : (s.onPath ch f).reply = s.reply := rfl
@[simp] theorem State.onPath_spiOut (s : State) (ch : Chan) (f : Path → Path) : (s.onPath ch f).spiOut = s.spiOut := rfl
@[simp] theorem State.onPath_pending (s : State) (ch : Chan) (f : Path → Path) : (s.onPath ch f).pending = s.pending := rfl

@[simp] theorem State.onControl_table (s : State) (ch : Chan) (f : Control → Control) : (s.onControl ch f).table = s.table := rfl
@[simp] theorem State.onControl_spare (s : State) (ch : Chan) (f : Control → Control) : (s.onControl ch f).spare = s.spare := rfl
@[simp] theorem State.onControl_store (s : State) (ch : Chan) (f : Control → Control) : (s.onControl ch f).store = s.store := rfl
@[simp] theorem State.onControl_arbiter (s : State) (ch : Chan) (f : Control → Control) : (s.onControl ch f).arbiter = s.arbiter := rfl
@[simp] theorem State.onControl_allocator (s : State) (ch : Chan) (f : Control → Control) : (s.onControl ch f).allocator = s.allocator := rfl
@[simp] theorem State.onControl_loader (s : State) (ch : Chan) (f : Control → Control) : (s.onControl ch f).loader = s.loader := rfl
@[simp] theorem State.onControl_reply (s : State) (ch : Chan) (f : Control → Control) : (s.onControl ch f).reply = s.reply := rfl
@[simp] theorem State.onControl_spiOut (s : State) (ch : Chan) (f : Control → Control) : (s.onControl ch f).spiOut = s.spiOut := rfl
@[simp] theorem State.onControl_pending (s : State) (ch : Chan) (f : Control → Control) : (s.onControl ch f).pending = s.pending := rfl

@[simp] theorem State.onSetup_table (s : State) (ch : Chan) (f : ChannelSetup → ChannelSetup) : (s.onSetup ch f).table = s.table := rfl
@[simp] theorem State.onSetup_spare (s : State) (ch : Chan) (f : ChannelSetup → ChannelSetup) : (s.onSetup ch f).spare = s.spare := rfl
@[simp] theorem State.onSetup_store (s : State) (ch : Chan) (f : ChannelSetup → ChannelSetup) : (s.onSetup ch f).store = s.store := rfl
@[simp] theorem State.onSetup_arbiter (s : State) (ch : Chan) (f : ChannelSetup → ChannelSetup) : (s.onSetup ch f).arbiter = s.arbiter := rfl
@[simp] theorem State.onSetup_allocator (s : State) (ch : Chan) (f : ChannelSetup → ChannelSetup) : (s.onSetup ch f).allocator = s.allocator := rfl
@[simp] theorem State.onSetup_loader (s : State) (ch : Chan) (f : ChannelSetup → ChannelSetup) : (s.onSetup ch f).loader = s.loader := rfl
@[simp] theorem State.onSetup_reply (s : State) (ch : Chan) (f : ChannelSetup → ChannelSetup) : (s.onSetup ch f).reply = s.reply := rfl
@[simp] theorem State.onSetup_spiOut (s : State) (ch : Chan) (f : ChannelSetup → ChannelSetup) : (s.onSetup ch f).spiOut = s.spiOut := rfl
@[simp] theorem State.onSetup_pending (s : State) (ch : Chan) (f : ChannelSetup → ChannelSetup) : (s.onSetup ch f).pending = s.pending := rfl

@[simp] theorem State.onTimers_table (s : State) (ch : Chan) (f : Timers → Timers) : (s.onTimers ch f).table = s.table := rfl
@[simp] theorem State.onTimers_spare (s : State) (ch : Chan) (f : Timers → Timers) : (s.onTimers ch f).spare = s.spare := rfl
@[simp] theorem State.onTimers_store (s : State) (ch : Chan) (f : Timers → Timers) : (s.onTimers ch f).store = s.store := rfl
@[simp] theorem State.onTimers_arbiter (s : State) (ch : Chan) (f : Timers → Timers) : (s.onTimers ch f).arbiter = s.arbiter := rfl
@[simp] theorem State.onTimers_allocator (s : State) (ch : Chan) (f : Timers → Timers) : (s.onTimers ch f).allocator = s.allocator := rfl
@[simp] theorem State.onTimers_loader (s : State) (ch : Chan) (f : Timers → Timers) : (s.onTimers ch f).loader = s.loader := rfl
@[simp] theorem State.onTimers_reply (s : State) (ch : Chan) (f : Timers → Timers) : (s.onTimers ch f).reply = s.reply := rfl
@[simp] theorem State.onTimers_spiOut (s : State) (ch : Chan) (f : Timers → Timers) : (s.onTimers ch f).spiOut = s.spiOut := rfl
@[simp] theorem State.onTimers_pending (s : State) (ch : Chan) (f : Timers → Timers) : (s.onTimers ch f).pending = s.pending := rfl

@[simp] theorem State.onQueue_table (s : State) (ch : Chan) (f : FailQueue → FailQueue) : (s.onQueue ch f).table = s.table := rfl
@[simp] theorem State.onQueue_spare (s : State) (ch : Chan) (f : FailQueue → FailQueue) : (s.onQueue ch f).spare = s.spare := rfl
@[simp] theorem State.onQueue_store (s : State) (ch : Chan) (f : FailQueue → FailQueue) : (s.onQueue ch f).store = s.store := rfl
@[simp] theorem State.onQueue_arbiter (s : State) (ch : Chan) (f : FailQueue → FailQueue) : (s.onQueue ch f).arbiter = s.arbiter := rfl
@[simp] theorem State.onQueue_allocator (s : State) (ch : Chan) (f : FailQueue → FailQueue) : (s.onQueue ch f).allocator = s.allocator := rfl
@[simp] theorem State.onQueue_loader (s : State) (ch : Chan) (f : FailQueue → FailQueue) : (s.onQueue ch f).loader = s.loader := rfl
@[simp] theorem State.onQueue_reply (s : State) (ch : Chan) (f : FailQueue → FailQueue) : (s.onQueue ch f).reply = s.reply := rfl
@[simp] theorem State.onQueue_spiOut (s : State) (ch : Chan) (f : FailQueue → FailQueue) : (s.onQueue ch f).spiOut = s.spiOut := rfl
@[simp] theorem State.onQueue_pending (s : State) (ch : Chan) (f : FailQueue → FailQueue) : (s.onQueue ch f).pending = s.pending := rfl

@[simp] theorem State.onAllocation_table (s : State) (ch : Chan) (f : ChannelAllocation → ChannelAllocation) : (s.onAllocation ch f).table = s.table := rfl
@[simp] theorem State.onAllocation_spare (s : State) (ch : Chan) (f : ChannelAllocation → ChannelAllocation) : (s.onAllocation ch f).spare = s.spare := rfl
@[simp] theorem State.onAllocation_store (s : State) (ch : Chan) (f : ChannelAllocation → ChannelAllocation) : (s.onAllocation ch f).store = s.store := rfl
@[simp] theorem State.onAllocation_arbiter (s : State) (ch : Chan) (f : ChannelAllocation → ChannelAllocation) : (s.onAllocation ch f).arbiter = s.arbiter := rfl
@[simp] theorem State.onAllocation_allocator (s : State) (ch : Chan) (f : ChannelAllocation → ChannelAllocation) : (s.onAllocation ch f).allocator = s.allocator := rfl
@[simp] theorem State.onAllocation_loader (s : State) (ch : Chan) (f : ChannelAllocation → ChannelAllocation) : (s.onAllocation ch f).loader = s.loader := rfl
@[simp] theorem State.onAllocation_reply (s : State) (ch : Chan) (f : ChannelAllocation → ChannelAllocation) : (s.onAllocation ch f).reply = s.reply := rfl
@[simp] theorem State.onAllocation_spiOut (s : State) (ch : Chan) (f : ChannelAllocation → ChannelAllocation) : (s.onAllocation ch f).spiOut = s.spiOut := rfl
@[simp] theorem State.onAllocation_pending (s : State) (ch : Chan) (f : ChannelAllocation → ChannelAllocation) : (s.onAllocation ch f).pending = s.pending := rfl

@[simp] theorem State.onPins_table (s : State) (ch : Chan) (f : Pins → Pins) : (s.onPins ch f).table = s.table := rfl
@[simp] theorem State.onPins_spare (s : State) (ch : Chan) (f : Pins → Pins) : (s.onPins ch f).spare = s.spare := rfl
@[simp] theorem State.onPins_store (s : State) (ch : Chan) (f : Pins → Pins) : (s.onPins ch f).store = s.store := rfl
@[simp] theorem State.onPins_arbiter (s : State) (ch : Chan) (f : Pins → Pins) : (s.onPins ch f).arbiter = s.arbiter := rfl
@[simp] theorem State.onPins_allocator (s : State) (ch : Chan) (f : Pins → Pins) : (s.onPins ch f).allocator = s.allocator := rfl
@[simp] theorem State.onPins_loader (s : State) (ch : Chan) (f : Pins → Pins) : (s.onPins ch f).loader = s.loader := rfl
@[simp] theorem State.onPins_reply (s : State) (ch : Chan) (f : Pins → Pins) : (s.onPins ch f).reply = s.reply := rfl
@[simp] theorem State.onPins_spiOut (s : State) (ch : Chan) (f : Pins → Pins) : (s.onPins ch f).spiOut = s.spiOut := rfl
@[simp] theorem State.onPins_pending (s : State) (ch : Chan) (f : Pins → Pins) : (s.onPins ch f).pending = s.pending := rfl

theorem State.onChan_chan (s : State) (ch ch' : Chan) (f : Channel → Channel) :
    (s.onChan ch f).chan[ch'.val] = if ch = ch' then f s.chan[ch.val] else s.chan[ch'.val] := by
  simp [State.onChan, Vector.getElem_set, Fin.ext_iff]

@[simp] theorem State.onChan_same (s : State) (ch : Chan) (f : Channel → Channel) :
    (s.onChan ch f).chan[ch.val] = f s.chan[ch.val] := by simp [State.onChan_chan]

theorem State.onChan_other (s : State) {ch ch' : Chan} (h : ch ≠ ch') (f : Channel → Channel) :
    (s.onChan ch f).chan[ch'.val] = s.chan[ch'.val] := by simp [State.onChan_chan, h]

@[simp] theorem State.mapChan_chan (s : State) (f : Chan → Channel → Channel) (ch : Chan) :
    (s.mapChan f).chan[ch.val] = f ch s.chan[ch.val] := by simp [State.mapChan]

@[simp] theorem State.onEngine_same (s : State) (ch : Chan) (f : Engine → Engine) :
    (s.onEngine ch f).chan[ch.val] = { s.chan[ch.val] with engine := f s.chan[ch.val].engine } := State.onChan_same s ch _

theorem State.onEngine_other (s : State) {ch ch' : Chan} (h : ch ≠ ch') (f : Engine → Engine) :
    (s.onEngine ch f).chan[ch'.val] = s.chan[ch'.val] := State.onChan_other s h _

theorem State.onEngine_chan (s : State) (ch ch' : Chan) (f : Engine → Engine) :
    (s.onEngine ch f).chan[ch'.val] =
      if ch = ch' then { s.chan[ch.val] with engine := f s.chan[ch.val].engine } else s.chan[ch'.val] :=
  State.onChan_chan s ch ch' _

@[simp] theorem State.onPath_same (s : State) (ch : Chan) (f : Path → Path) :
    (s.onPath ch f).chan[ch.val] = { s.chan[ch.val] with path := f s.chan[ch.val].path } := State.onChan_same s ch _

theorem State.onPath_other (s : State) {ch ch' : Chan} (h : ch ≠ ch') (f : Path → Path) :
    (s.onPath ch f).chan[ch'.val] = s.chan[ch'.val] := State.onChan_other s h _

theorem State.onPath_chan (s : State) (ch ch' : Chan) (f : Path → Path) :
    (s.onPath ch f).chan[ch'.val] =
      if ch = ch' then { s.chan[ch.val] with path := f s.chan[ch.val].path } else s.chan[ch'.val] :=
  State.onChan_chan s ch ch' _

@[simp] theorem State.onControl_same (s : State) (ch : Chan) (f : Control → Control) :
    (s.onControl ch f).chan[ch.val] = { s.chan[ch.val] with control := f s.chan[ch.val].control } := State.onChan_same s ch _

theorem State.onControl_other (s : State) {ch ch' : Chan} (h : ch ≠ ch') (f : Control → Control) :
    (s.onControl ch f).chan[ch'.val] = s.chan[ch'.val] := State.onChan_other s h _

theorem State.onControl_chan (s : State) (ch ch' : Chan) (f : Control → Control) :
    (s.onControl ch f).chan[ch'.val] =
      if ch = ch' then { s.chan[ch.val] with control := f s.chan[ch.val].control } else s.chan[ch'.val] :=
  State.onChan_chan s ch ch' _

@[simp] theorem State.onSetup_same (s : State) (ch : Chan) (f : ChannelSetup → ChannelSetup) :
    (s.onSetup ch f).chan[ch.val] = { s.chan[ch.val] with setup := f s.chan[ch.val].setup } := State.onChan_same s ch _

theorem State.onSetup_other (s : State) {ch ch' : Chan} (h : ch ≠ ch') (f : ChannelSetup → ChannelSetup) :
    (s.onSetup ch f).chan[ch'.val] = s.chan[ch'.val] := State.onChan_other s h _

theorem State.onSetup_chan (s : State) (ch ch' : Chan) (f : ChannelSetup → ChannelSetup) :
    (s.onSetup ch f).chan[ch'.val] =
      if ch = ch' then { s.chan[ch.val] with setup := f s.chan[ch.val].setup } else s.chan[ch'.val] :=
  State.onChan_chan s ch ch' _

@[simp] theorem State.onTimers_same (s : State) (ch : Chan) (f : Timers → Timers) :
    (s.onTimers ch f).chan[ch.val] = { s.chan[ch.val] with timers := f s.chan[ch.val].timers } := State.onChan_same s ch _

theorem State.onTimers_other (s : State) {ch ch' : Chan} (h : ch ≠ ch') (f : Timers → Timers) :
    (s.onTimers ch f).chan[ch'.val] = s.chan[ch'.val] := State.onChan_other s h _

theorem State.onTimers_chan (s : State) (ch ch' : Chan) (f : Timers → Timers) :
    (s.onTimers ch f).chan[ch'.val] =
      if ch = ch' then { s.chan[ch.val] with timers := f s.chan[ch.val].timers } else s.chan[ch'.val] :=
  State.onChan_chan s ch ch' _

@[simp] theorem State.onQueue_same (s : State) (ch : Chan) (f : FailQueue → FailQueue) :
    (s.onQueue ch f).chan[ch.val] = { s.chan[ch.val] with queue := f s.chan[ch.val].queue } := State.onChan_same s ch _

theorem State.onQueue_other (s : State) {ch ch' : Chan} (h : ch ≠ ch') (f : FailQueue → FailQueue) :
    (s.onQueue ch f).chan[ch'.val] = s.chan[ch'.val] := State.onChan_other s h _

theorem State.onQueue_chan (s : State) (ch ch' : Chan) (f : FailQueue → FailQueue) :
    (s.onQueue ch f).chan[ch'.val] =
      if ch = ch' then { s.chan[ch.val] with queue := f s.chan[ch.val].queue } else s.chan[ch'.val] :=
  State.onChan_chan s ch ch' _

@[simp] theorem State.onAllocation_same (s : State) (ch : Chan) (f : ChannelAllocation → ChannelAllocation) :
    (s.onAllocation ch f).chan[ch.val] = { s.chan[ch.val] with allocation := f s.chan[ch.val].allocation } := State.onChan_same s ch _

theorem State.onAllocation_other (s : State) {ch ch' : Chan} (h : ch ≠ ch') (f : ChannelAllocation → ChannelAllocation) :
    (s.onAllocation ch f).chan[ch'.val] = s.chan[ch'.val] := State.onChan_other s h _

theorem State.onAllocation_chan (s : State) (ch ch' : Chan) (f : ChannelAllocation → ChannelAllocation) :
    (s.onAllocation ch f).chan[ch'.val] =
      if ch = ch' then { s.chan[ch.val] with allocation := f s.chan[ch.val].allocation } else s.chan[ch'.val] :=
  State.onChan_chan s ch ch' _

@[simp] theorem State.onPins_same (s : State) (ch : Chan) (f : Pins → Pins) :
    (s.onPins ch f).chan[ch.val] = { s.chan[ch.val] with pins := f s.chan[ch.val].pins } := State.onChan_same s ch _

theorem State.onPins_other (s : State) {ch ch' : Chan} (h : ch ≠ ch') (f : Pins → Pins) :
    (s.onPins ch f).chan[ch'.val] = s.chan[ch'.val] := State.onChan_other s h _

theorem State.onPins_chan (s : State) (ch ch' : Chan) (f : Pins → Pins) :
    (s.onPins ch f).chan[ch'.val] =
      if ch = ch' then { s.chan[ch.val] with pins := f s.chan[ch.val].pins } else s.chan[ch'.val] :=
  State.onChan_chan s ch ch' _

/-! ## Pins and the idle buses -/

@[simp] theorem State.drive_table (s : State) (ch : Chan) (c : DeviceCommand) : (s.drive ch c).table = s.table := rfl
@[simp] theorem State.drive_spare (s : State) (ch : Chan) (c : DeviceCommand) : (s.drive ch c).spare = s.spare := rfl
@[simp] theorem State.drive_store (s : State) (ch : Chan) (c : DeviceCommand) : (s.drive ch c).store = s.store := rfl
@[simp] theorem State.drive_arbiter (s : State) (ch : Chan) (c : DeviceCommand) : (s.drive ch c).arbiter = s.arbiter := rfl
@[simp] theorem State.drive_allocator (s : State) (ch : Chan) (c : DeviceCommand) : (s.drive ch c).allocator = s.allocator := rfl
@[simp] theorem State.drive_loader (s : State) (ch : Chan) (c : DeviceCommand) : (s.drive ch c).loader = s.loader := rfl
@[simp] theorem State.drive_reply (s : State) (ch : Chan) (c : DeviceCommand) : (s.drive ch c).reply = s.reply := rfl
@[simp] theorem State.drive_spiOut (s : State) (ch : Chan) (c : DeviceCommand) : (s.drive ch c).spiOut = s.spiOut := rfl
@[simp] theorem State.drive_pending (s : State) (ch : Chan) (c : DeviceCommand) : (s.drive ch c).pending = s.pending := rfl

@[simp] theorem State.deliver_table (s : State) (ch : Chan) (w : Word) : (s.deliver ch w).table = s.table := rfl
@[simp] theorem State.deliver_spare (s : State) (ch : Chan) (w : Word) : (s.deliver ch w).spare = s.spare := rfl
@[simp] theorem State.deliver_store (s : State) (ch : Chan) (w : Word) : (s.deliver ch w).store = s.store := rfl
@[simp] theorem State.deliver_arbiter (s : State) (ch : Chan) (w : Word) : (s.deliver ch w).arbiter = s.arbiter := rfl
@[simp] theorem State.deliver_allocator (s : State) (ch : Chan) (w : Word) : (s.deliver ch w).allocator = s.allocator := rfl
@[simp] theorem State.deliver_loader (s : State) (ch : Chan) (w : Word) : (s.deliver ch w).loader = s.loader := rfl
@[simp] theorem State.deliver_reply (s : State) (ch : Chan) (w : Word) : (s.deliver ch w).reply = s.reply := rfl
@[simp] theorem State.deliver_spiOut (s : State) (ch : Chan) (w : Word) : (s.deliver ch w).spiOut = s.spiOut := rfl
@[simp] theorem State.deliver_pending (s : State) (ch : Chan) (w : Word) : (s.deliver ch w).pending = s.pending := rfl

@[simp] theorem State.quiet_table (s : State) : s.quiet.table = s.table := rfl
@[simp] theorem State.quiet_spare (s : State) : s.quiet.spare = s.spare := rfl
@[simp] theorem State.quiet_store (s : State) : s.quiet.store = s.store := rfl
@[simp] theorem State.quiet_arbiter (s : State) : s.quiet.arbiter = s.arbiter := rfl
@[simp] theorem State.quiet_allocator (s : State) : s.quiet.allocator = s.allocator := rfl
@[simp] theorem State.quiet_loader (s : State) : s.quiet.loader = s.loader := rfl
@[simp] theorem State.quiet_reply (s : State) : s.quiet.reply = s.reply := rfl
@[simp] theorem State.quiet_spiOut (s : State) : s.quiet.spiOut = [] := rfl
@[simp] theorem State.quiet_pending (s : State) : s.quiet.pending = s.pending := rfl

/-! ## Two updates of one channel are one -/

theorem State.onChan_congr (s : State) (ch : Chan) {f g : Channel → Channel}
    (h : f s.chan[ch.val] = g s.chan[ch.val]) : s.onChan ch f = s.onChan ch g := by
  simp only [State.onChan, Fin.getElem_fin, h]

theorem State.onChan_onChan (s : State) (ch : Chan) (f g : Channel → Channel) :
    (s.onChan ch f).onChan ch g = s.onChan ch fun c => g (f c) := by
  simp [State.onChan]

theorem State.onEngine_eq (s : State) (ch : Chan) (f : Engine → Engine) :
    s.onEngine ch f = s.onChan ch fun c => { c with engine := f c.engine } := rfl

theorem State.onPath_eq (s : State) (ch : Chan) (f : Path → Path) :
    s.onPath ch f = s.onChan ch fun c => { c with path := f c.path } := rfl

theorem State.onControl_eq (s : State) (ch : Chan) (f : Control → Control) :
    s.onControl ch f = s.onChan ch fun c => { c with control := f c.control } := rfl

theorem State.onSetup_eq (s : State) (ch : Chan) (f : ChannelSetup → ChannelSetup) :
    s.onSetup ch f = s.onChan ch fun c => { c with setup := f c.setup } := rfl

theorem State.onTimers_eq (s : State) (ch : Chan) (f : Timers → Timers) :
    s.onTimers ch f = s.onChan ch fun c => { c with timers := f c.timers } := rfl

theorem State.onQueue_eq (s : State) (ch : Chan) (f : FailQueue → FailQueue) :
    s.onQueue ch f = s.onChan ch fun c => { c with queue := f c.queue } := rfl

theorem State.onAllocation_eq (s : State) (ch : Chan) (f : ChannelAllocation → ChannelAllocation) :
    s.onAllocation ch f = s.onChan ch fun c => { c with allocation := f c.allocation } := rfl

theorem State.onPins_eq (s : State) (ch : Chan) (f : Pins → Pins) :
    s.onPins ch f = s.onChan ch fun c => { c with pins := f c.pins } := rfl

theorem State.drive_eq (s : State) (ch : Chan) (cmd : DeviceCommand) :
    s.drive ch cmd = s.onChan ch fun c => { c with pins := { c.pins with toDevice := c.pins.toDevice ++ [cmd] } } := rfl

theorem State.deliver_eq (s : State) (ch : Chan) (w : Word) :
    s.deliver ch w = s.onChan ch fun c =>
      { c with pins := { c.pins with toController := c.pins.toController ++ [w] } } := rfl

/-- An update of another part passes through an update of a channel. -/
theorem State.onChan_setArbiter (s : State) (ch : Chan) (f : Channel → Channel) (a : Arbiter) :
    (s.onChan ch f).setArbiter a = (s.setArbiter a).onChan ch f := rfl

theorem State.onChan_setAllocator (s : State) (ch : Chan) (f : Channel → Channel) (a : Allocator) :
    (s.onChan ch f).setAllocator a = (s.setAllocator a).onChan ch f := rfl

theorem State.onChan_setReply (s : State) (ch : Chan) (f : Channel → Channel) (r : List Byte) :
    (s.onChan ch f).setReply r = (s.setReply r).onChan ch f := rfl

theorem State.onChan_setEntry (s : State) (ch : Chan) (f : Channel → Channel) (i : Fin 64) (e : Entry) :
    (s.onChan ch f).setEntry i e = (s.setEntry i e).onChan ch f := rfl

theorem State.onChan_setLine (s : State) (ch : Chan) (f : Channel → Channel) (i : Fin 64) (l : Line) :
    (s.onChan ch f).setLine i l = (s.setLine i l).onChan ch f := rfl

theorem State.onChan_mapTable (s : State) (ch : Chan) (f : Channel → Channel) (h : Fin 64 → Entry → Entry) :
    (s.onChan ch f).mapTable h = (s.mapTable h).onChan ch f := by simp only [State.mapTable, State.onChan]

theorem State.quiet_chan (s : State) (ch : Chan) :
    s.quiet.chan[ch.val] = { s.chan[ch.val] with pins := ⟨[], []⟩ } := by simp [State.quiet]

@[simp] theorem State.quiet_control (s : State) (ch : Chan) :
    s.quiet.chan[ch.val].control = s.chan[ch.val].control := by rw [State.quiet_chan]

@[simp] theorem State.quiet_setup (s : State) (ch : Chan) :
    s.quiet.chan[ch.val].setup = s.chan[ch.val].setup := by rw [State.quiet_chan]

@[simp] theorem State.quiet_path (s : State) (ch : Chan) :
    s.quiet.chan[ch.val].path = s.chan[ch.val].path := by rw [State.quiet_chan]

@[simp] theorem State.quiet_engine (s : State) (ch : Chan) :
    s.quiet.chan[ch.val].engine = s.chan[ch.val].engine := by rw [State.quiet_chan]

@[simp] theorem State.quiet_timers (s : State) (ch : Chan) :
    s.quiet.chan[ch.val].timers = s.chan[ch.val].timers := by rw [State.quiet_chan]

@[simp] theorem State.quiet_queue (s : State) (ch : Chan) :
    s.quiet.chan[ch.val].queue = s.chan[ch.val].queue := by rw [State.quiet_chan]

@[simp] theorem State.quiet_allocation (s : State) (ch : Chan) :
    s.quiet.chan[ch.val].allocation = s.chan[ch.val].allocation := by rw [State.quiet_chan]

@[simp] theorem State.quiet_patterns (s : State) (ch : Chan) :
    s.quiet.chan[ch.val].patterns = s.chan[ch.val].patterns := by rw [State.quiet_chan]

@[simp] theorem State.quiet_result (s : State) (ch : Chan) :
    s.quiet.chan[ch.val].result = s.chan[ch.val].result := by rw [State.quiet_chan]

@[simp] theorem State.quiet_baselines (s : State) (ch : Chan) :
    s.quiet.chan[ch.val].baselines = s.chan[ch.val].baselines := by rw [State.quiet_chan]

@[simp] theorem State.quiet_pins (s : State) (ch : Chan) : s.quiet.chan[ch.val].pins = ⟨[], []⟩ := by
  rw [State.quiet_chan]

@[simp] theorem State.quiet_serving (s : State) (ch : Chan) :
    s.quiet.chan[ch.val].serving = s.chan[ch.val].serving := by rw [State.quiet_chan]; rfl

@[simp] theorem State.quiet_geometry (s : State) (ch : Chan) :
    s.quiet.chan[ch.val].geometry = s.chan[ch.val].geometry := by rw [State.quiet_chan]; rfl

@[simp] theorem State.quiet_servedGeometry (s : State) (ch : Chan) :
    s.quiet.chan[ch.val].servedGeometry = s.chan[ch.val].servedGeometry := by rw [State.quiet_chan]; rfl

@[simp] theorem State.quiet_ignored (s : State) (ch : Chan) :
    s.quiet.chan[ch.val].ignored = s.chan[ch.val].ignored := by
  funext scope; cases scope <;> simp only [Channel.ignored, State.quiet_setup]

@[simp] theorem State.quiet_wordLookup (s : State) : s.quiet.wordLookup = s.wordLookup := by
  funext a ch bank row column
  have h (r : Repair) : r.wordMatch s.quiet.chan[ch.val] ch bank row column
      = r.wordMatch s.chan[ch.val] ch bank row column := by
    unfold Repair.wordMatch; simp only [State.quiet_geometry, State.quiet_ignored]
  simp only [State.wordLookup, Fin.getElem_fin, State.quiet_table, h]

@[simp] theorem State.quiet_rowLookup (s : State) : s.quiet.rowLookup = s.rowLookup := rfl

/-- Two machines with the same parts, channel by channel, are the same. -/
theorem State.ext_chan {s t : State} (hc : ∀ ch : Chan, s.chan[ch.val] = t.chan[ch.val]) (ht : s.table = t.table)
    (hs : s.spare = t.spare) (he : s.store = t.store) (ha : s.arbiter = t.arbiter) (hl : s.allocator = t.allocator)
    (ho : s.loader = t.loader) (hr : s.reply = t.reply) (hb : s.spiOut = t.spiOut) (hp : s.pending = t.pending) :
    s = t := by
  have h : s.chan = t.chan := Vector.ext fun i hi => by simpa using hc ⟨i, hi⟩
  cases s; cases t; simp_all

end Sys2Proof.Machine
end

