-- ==== Sys2Proof/Laws/Table.lean ====
section
/-! SUPPORT. The Repair Table: what creation, release, the bulk transitions and the return of lines do to each entry, that
they change nothing else, and what a lookup depends on (Chapter 1). -/

namespace Sys2Proof.Machine

/-! ## Search by index -/

/-- The first index of a finite range with a result. -/
theorem findSome?_finRange {n : Nat} {α : Type} (f : Fin n → Option α) (x : α) :
    (List.finRange n).findSome? f = some x ↔ ∃ i, f i = some x ∧ ∀ j, j < i → f j = none := by
  have hp : (List.finRange n).Pairwise (· < ·) := List.pairwise_lt_finRange n
  rw [List.findSome?_eq_some_iff]
  constructor
  · rintro ⟨l1, a, l2, h1, h2, h3⟩
    refine ⟨a, h2, fun j hj => h3 j ?_⟩
    have hm : j ∈ List.finRange n := List.mem_finRange j
    rw [h1] at hp hm
    rw [List.pairwise_append] at hp
    rw [List.mem_append, List.mem_cons] at hm
    rcases hm with hm | rfl | hm
    · exact hm
    · exact absurd hj (lt_irrefl _)
    · exact absurd (lt_trans hj ((List.pairwise_cons.1 hp.2.1).1 j hm)) (lt_irrefl _)
  · rintro ⟨i, h2, h3⟩
    obtain ⟨l1, l2, h⟩ := List.append_of_mem (List.mem_finRange i)
    rw [h, List.pairwise_append] at hp
    exact ⟨l1, i, l2, h, h2, fun j hj => h3 j (hp.2.2 j hj i (by simp))⟩

theorem State.freeIndex_eq_some (s : State) (i : Fin 64) (h : s.table[i.val] = .free)
    (hm : ∀ j : Fin 64, j < i → s.table[j.val] ≠ .free) : s.freeIndex = some i := by
  unfold State.freeIndex
  simp only [Fin.getElem_fin]
  rw [List.find?_eq_some_iff_getElem]
  refine ⟨by simp [h], i.val, by simp, by simp, fun j hj => ?_⟩
  simpa using hm ⟨j, by omega⟩ hj

theorem State.freeIndex_eq_none (s : State) (h : ∀ j : Fin 64, s.table[j.val] ≠ .free) : s.freeIndex = none := by
  unfold State.freeIndex
  simpa using h

/-! ## Updates of every entry -/

theorem State.mapTable_entry (s : State) (f : Fin 64 → Entry → Entry) (i : Fin 64) :
    (s.mapTable f).table[i.val] = f i s.table[i.val] := by simp [State.mapTable]

/-- What release does to an entry (R6). -/
theorem State.releaseWhere_entry (s : State) (p : Repair → Bool) (i : Fin 64) :
    (s.releaseWhere p).table[i.val] = match s.table[i.val].repair? with
      | some r => if p r then .free else s.table[i.val]
      | none => s.table[i.val] := by
  exact State.mapTable_entry s _ i

/-- What reopen does to an entry (R14). -/
theorem State.reopen_entry (s : State) (ch : Chan) (i : Fin 64) :
    (s.reopen ch).table[i.val] = match s.table[i.val].repair? with
      | some r => if r.channel = ch then .tentative { r with origin := .carried } else s.table[i.val]
      | none => s.table[i.val] := by
  unfold State.reopen
  rw [State.mapTable_entry]
  unfold Entry.reopen
  cases s.table[i.val].repair? <;> rfl

/-- What commit does to an entry (R15). -/
theorem State.commit_entry (s : State) (ch : Chan) (i : Fin 64) :
    (s.commit ch).table[i.val] = s.table[i.val].commit ch := by
  unfold State.commit
  rw [State.mapTable_entry]

/-- What the return of lines does to an entry (R21). -/
theorem State.returnLines_entry (s : State) (ch : Chan) (i : Fin 64) :
    (s.returnLines ch).table[i.val] = match s.table[i.val] with
      | .lent p => if s.borrowed ch p then .lent p else .free
      | .free => .free
      | .tentative r => .tentative r
      | .active r => .active r := by
  unfold State.returnLines
  rw [State.mapTable_entry]
  cases s.table[i.val] <;> rfl

theorem State.commit_repair (s : State) (ch : Chan) (i : Fin 64) :
    (s.commit ch).table[i.val].repair? = s.table[i.val].repair? := by
  rw [State.commit_entry]
  cases s.table[i.val] <;> simp only [Entry.commit]
  rename_i r
  by_cases h : r.channel = ch <;> simp [h, Entry.repair?]

theorem State.returnLines_repair (s : State) (ch : Chan) (i : Fin 64) :
    (s.returnLines ch).table[i.val].repair? = s.table[i.val].repair? := by
  rw [State.returnLines_entry]
  cases s.table[i.val] <;> simp only [Entry.repair?]
  rename_i p
  cases s.borrowed ch p <;> simp

/-! ## Nothing else changes -/

@[simp] theorem State.reopen_chan (s : State) (ch : Chan) : (s.reopen ch).chan = s.chan := by
  simp only [State.reopen, State.mapTable]
@[simp] theorem State.reopen_spare (s : State) (ch : Chan) : (s.reopen ch).spare = s.spare := by
  simp only [State.reopen, State.mapTable]
@[simp] theorem State.reopen_store (s : State) (ch : Chan) : (s.reopen ch).store = s.store := by
  simp only [State.reopen, State.mapTable]
@[simp] theorem State.reopen_arbiter (s : State) (ch : Chan) : (s.reopen ch).arbiter = s.arbiter := by
  simp only [State.reopen, State.mapTable]
@[simp] theorem State.reopen_allocator (s : State) (ch : Chan) : (s.reopen ch).allocator = s.allocator := by
  simp only [State.reopen, State.mapTable]
@[simp] theorem State.reopen_loader (s : State) (ch : Chan) : (s.reopen ch).loader = s.loader := by
  simp only [State.reopen, State.mapTable]
@[simp] theorem State.reopen_reply (s : State) (ch : Chan) : (s.reopen ch).reply = s.reply := by
  simp only [State.reopen, State.mapTable]
@[simp] theorem State.reopen_spiOut (s : State) (ch : Chan) : (s.reopen ch).spiOut = s.spiOut := by
  simp only [State.reopen, State.mapTable]
@[simp] theorem State.reopen_pending (s : State) (ch : Chan) : (s.reopen ch).pending = s.pending := by
  simp only [State.reopen, State.mapTable]

@[simp] theorem State.commit_chan (s : State) (ch : Chan) : (s.commit ch).chan = s.chan := by
  simp only [State.commit, State.mapTable]
@[simp] theorem State.commit_spare (s : State) (ch : Chan) : (s.commit ch).spare = s.spare := by
  simp only [State.commit, State.mapTable]
@[simp] theorem State.commit_store (s : State) (ch : Chan) : (s.commit ch).store = s.store := by
  simp only [State.commit, State.mapTable]
@[simp] theorem State.commit_arbiter (s : State) (ch : Chan) : (s.commit ch).arbiter = s.arbiter := by
  simp only [State.commit, State.mapTable]
@[simp] theorem State.commit_allocator (s : State) (ch : Chan) : (s.commit ch).allocator = s.allocator := by
  simp only [State.commit, State.mapTable]
@[simp] theorem State.commit_loader (s : State) (ch : Chan) : (s.commit ch).loader = s.loader := by
  simp only [State.commit, State.mapTable]
@[simp] theorem State.commit_reply (s : State) (ch : Chan) : (s.commit ch).reply = s.reply := by
  simp only [State.commit, State.mapTable]
@[simp] theorem State.commit_spiOut (s : State) (ch : Chan) : (s.commit ch).spiOut = s.spiOut := by
  simp only [State.commit, State.mapTable]
@[simp] theorem State.commit_pending (s : State) (ch : Chan) : (s.commit ch).pending = s.pending := by
  simp only [State.commit, State.mapTable]

@[simp] theorem State.releaseWhere_chan (s : State) (p : Repair → Bool) : (s.releaseWhere p).chan = s.chan := by
  simp only [State.releaseWhere, State.mapTable]
@[simp] theorem State.releaseWhere_spare (s : State) (p : Repair → Bool) : (s.releaseWhere p).spare = s.spare := by
  simp only [State.releaseWhere, State.mapTable]
@[simp] theorem State.releaseWhere_store (s : State) (p : Repair → Bool) : (s.releaseWhere p).store = s.store := by
  simp only [State.releaseWhere, State.mapTable]
@[simp] theorem State.releaseWhere_arbiter (s : State) (p : Repair → Bool) : (s.releaseWhere p).arbiter = s.arbiter := by
  simp only [State.releaseWhere, State.mapTable]
@[simp] theorem State.releaseWhere_allocator (s : State) (p : Repair → Bool) : (s.releaseWhere p).allocator = s.allocator := by
  simp only [State.releaseWhere, State.mapTable]
@[simp] theorem State.releaseWhere_loader (s : State) (p : Repair → Bool) : (s.releaseWhere p).loader = s.loader := by
  simp only [State.releaseWhere, State.mapTable]
@[simp] theorem State.releaseWhere_reply (s : State) (p : Repair → Bool) : (s.releaseWhere p).reply = s.reply := by
  simp only [State.releaseWhere, State.mapTable]
@[simp] theorem State.releaseWhere_spiOut (s : State) (p : Repair → Bool) : (s.releaseWhere p).spiOut = s.spiOut := by
  simp only [State.releaseWhere, State.mapTable]
@[simp] theorem State.releaseWhere_pending (s : State) (p : Repair → Bool) : (s.releaseWhere p).pending = s.pending := by
  simp only [State.releaseWhere, State.mapTable]

@[simp] theorem State.returnLines_chan (s : State) (ch : Chan) : (s.returnLines ch).chan = s.chan := by
  simp only [State.returnLines, State.mapTable]
@[simp] theorem State.returnLines_spare (s : State) (ch : Chan) : (s.returnLines ch).spare = s.spare := by
  simp only [State.returnLines, State.mapTable]
@[simp] theorem State.returnLines_store (s : State) (ch : Chan) : (s.returnLines ch).store = s.store := by
  simp only [State.returnLines, State.mapTable]
@[simp] theorem State.returnLines_arbiter (s : State) (ch : Chan) : (s.returnLines ch).arbiter = s.arbiter := by
  simp only [State.returnLines, State.mapTable]
@[simp] theorem State.returnLines_allocator (s : State) (ch : Chan) : (s.returnLines ch).allocator = s.allocator := by
  simp only [State.returnLines, State.mapTable]
@[simp] theorem State.returnLines_loader (s : State) (ch : Chan) : (s.returnLines ch).loader = s.loader := by
  simp only [State.returnLines, State.mapTable]
@[simp] theorem State.returnLines_reply (s : State) (ch : Chan) : (s.returnLines ch).reply = s.reply := by
  simp only [State.returnLines, State.mapTable]
@[simp] theorem State.returnLines_spiOut (s : State) (ch : Chan) : (s.returnLines ch).spiOut = s.spiOut := by
  simp only [State.returnLines, State.mapTable]
@[simp] theorem State.returnLines_pending (s : State) (ch : Chan) : (s.returnLines ch).pending = s.pending := by
  simp only [State.returnLines, State.mapTable]

/-! ## Creation (R5) -/

/-- A SUBSTITUTE is created in the lowest FREE entry, normalised, with its line zeroed. -/
theorem State.create_substitute (s : State) (r : Repair) (column : Column) (scope : Scope)
    (hk : r.kind = .substitute column scope) (i : Fin 64) (h : s.table[i.val] = .free)
    (hm : ∀ j : Fin 64, j < i → s.table[j.val] ≠ .free) :
    s.create r = some ((s.setEntry i (.tentative { r with
      kind := .substitute (column &&& ~~~(s.chan[r.channel.val].ignored scope)) scope })).setLine i zeroLine) := by
  simp [State.create, State.freeIndex_eq_some s i h hm, Repair.normalised, hk, normalisedColumn]

/-- A REMAP is created in the lowest FREE entry. -/
theorem State.create_remap (s : State) (r : Repair) (reserve : Nat) (hk : r.kind = .remap reserve) (i : Fin 64)
    (h : s.table[i.val] = .free) (hm : ∀ j : Fin 64, j < i → s.table[j.val] ≠ .free) :
    s.create r = some (s.setEntry i (.tentative r)) := by
  simp [State.create, State.freeIndex_eq_some s i h hm, Repair.normalised, hk]

/-- With no FREE entry the table reports that it is full. -/
theorem State.create_full (s : State) (r : Repair) (h : ∀ j : Fin 64, s.table[j.val] ≠ .free) : s.create r = none := by
  simp [State.create, State.freeIndex_eq_none s h]

/-- A creation changes the table and the Spare Store alone. -/
theorem State.create_frame {s t : State} {r : Repair} (h : s.create r = some t) :
    t.chan = s.chan ∧ t.store = s.store ∧ t.arbiter = s.arbiter ∧ t.allocator = s.allocator ∧ t.loader = s.loader
      ∧ t.reply = s.reply ∧ t.spiOut = s.spiOut ∧ t.pending = s.pending := by
  unfold State.create at h
  split at h
  · cases h
  · split at h <;> cases h <;> exact ⟨rfl, rfl, rfl, rfl, rfl, rfl, rfl, rfl⟩

/-! ## What the lookups and the counts depend on -/

theorem State.rowLookup_congr {s t : State} (h : s.table = t.table) : s.rowLookup = t.rowLookup := by
  funext a ch bank row
  simp only [State.rowLookup, h]

theorem State.wordLookup_congr {s t : State} (ch : Chan) (h : s.table = t.table)
    (hs : s.chan[ch.val].setup = t.chan[ch.val].setup) (a : Accessor) (bank : Bank) (row : Row) (column : Column) :
    s.wordLookup a ch bank row column = t.wordLookup a ch bank row column := by
  have hi : s.chan[ch.val].ignored = t.chan[ch.val].ignored := by
    funext x
    cases x <;> simp [Channel.ignored, hs]
  have hm (r : Repair) : r.wordMatch s.chan[ch.val] ch bank row column = r.wordMatch t.chan[ch.val] ch bank row column := by
    unfold Repair.wordMatch
    simp [Channel.geometry, hs, hi]
  simp [State.wordLookup, h, hm]

theorem State.physicalRow_congr {s t : State} (ch : Chan) (h : s.table = t.table)
    (hs : s.chan[ch.val].setup = t.chan[ch.val].setup) (a : Accessor) (bank : Bank) (row : Row) :
    s.physicalRow a ch bank row = t.physicalRow a ch bank row := by
  simp [State.physicalRow, State.rowLookup, h, Channel.geometry, hs]

theorem State.countRepairs_congr {s t : State}
    (h : ∀ i : Fin 64, t.table[i.val].repair? = s.table[i.val].repair?) (p : Repair → Bool) :
    t.countRepairs p = s.countRepairs p := by simp [State.countRepairs, h]

/-- A channel has valid entries unless it has neither a SUBSTITUTE nor a REMAP. -/
theorem State.counts_zero_iff (s : State) (ch : Chan) :
    s.substituteCount ch + s.remapCount ch = 0 ↔ ¬ ∃ i : Fin 64, s.table[i].belongsTo ch = true := by
  simp [State.substituteCount, State.remapCount, State.countRepairs, Entry.belongsTo, Repair.isRemap]
  constructor
  · rintro ⟨h1, h2⟩ i
    have a := h1 i
    have b := h2 i
    cases h : s.table[i.val].repair? with
    | none => simp
    | some r => simp [h] at a b ⊢; cases hs : r.isSubstitute <;> simp_all
  · intro h
    constructor <;> intro i <;> have a := h i <;> cases hh : s.table[i.val].repair? with
    | none => simp
    | some r => simp [hh] at a ⊢; simp [a]

/-- Whether another channel still borrows a line depends on the channels' states and settings alone (R21). -/
theorem State.borrowed_congr {s t : State} (h : ∀ c : Chan, t.chan[c.val].control.state = s.chan[c.val].control.state)
    (hs : ∀ c : Chan, t.chan[c.val].setup = s.chan[c.val].setup) (ch : Chan) (p : Fin 8) :
    t.borrowed ch p = s.borrowed ch p := by simp [State.borrowed, h, Channel.names, hs]

end Sys2Proof.Machine
end

