-- ==== Sys2Proof/Laws/Allocator.lean ====
section
/-! SUPPORT. The shared arbiter's and allocator's choices (R112, R113, R126, R127), and the Row Tally and the classes of a
record as what they do (R128 to R133, R138). -/

namespace Sys2Proof.Machine

/-! ## Cyclic order -/

theorem nextInCycle_eq_some {last : Chan} {n : Nat} {p : Chan → Bool} {k : Nat} (hk : k < n)
    (h : p (Fin.ofNat 4 (last.val + 1 + k)) = true)
    (hm : ∀ j, j < k → p (Fin.ofNat 4 (last.val + 1 + j)) = false) :
    nextInCycle last n p = some (Fin.ofNat 4 (last.val + 1 + k)) := by
  unfold nextInCycle
  rw [List.find?_map]
  have e : List.find? (p ∘ fun k => Fin.ofNat 4 (last.val + 1 + k)) (List.range n) = some k := by
    rw [List.find?_range_eq_some]
    refine ⟨h, by simpa using hk, fun j hj => ?_⟩
    rw [Function.comp, hm j hj]
    rfl
  rw [e]
  rfl

theorem nextInCycle_eq_none {last : Chan} {n : Nat} {p : Chan → Bool} (h : ∀ ch : Chan, p ch = false) :
    nextInCycle last n p = none := by
  unfold nextInCycle
  rw [List.find?_eq_none]
  intro ch _
  simp [h ch]

/-- A channel that is found is one that meets the test. -/
theorem nextInCycle_meets {last ch : Chan} {n : Nat} {p : Chan → Bool} (h : nextInCycle last n p = some ch) :
    p ch = true := List.find?_some h

/-! ## Choice and take (R126, R127) -/

theorem Channel.hasWork_eq_false (c : Channel) :
    c.hasWork = false ↔ c.queue.records = [] ∧ c.allocation.request = none := by simp [Channel.hasWork]

/-- A busy allocator chooses nothing. -/
theorem State.choose_busy (s : State) (h : s.allocator.item ≠ .idle) : s.choose = s := by simp [State.choose, h]

/-- With no work before it the allocator chooses nothing. -/
theorem State.choose_idle (s : State) (h : s.ChoiceLaw) : s.choose = s := by
  unfold State.choose
  split
  · rename_i hi
    rw [nextInCycle_eq_none (h hi)]
  · rfl

/-- An idle allocator takes the work of the channel that is next in the cycle. -/
theorem State.choose_next (s : State) (ch : Chan) (hi : s.allocator.item = .idle)
    (h : nextInCycle s.allocator.lastServed 4 (fun ch => s.chan[ch].hasWork) = some ch) : s.choose = s.takeWork ch := by
  simp only [State.choose, hi, if_true, h]

/-- The take of a record, which releases an engine stalled on a full queue (R90, R120, R127). -/
theorem State.takeWork_record (s : State) (ch : Chan) (f : FailRecord) (rest : List FailRecord)
    (h : s.chan[ch.val].queue.records = f :: rest) :
    s.takeWork ch = (s.setAllocator { item := .record f (s.classify f), lastServed := ch }).onChan ch fun c => { c with
      queue := { c.queue with records := rest }
      engine := { c.engine with
        state := if c.engine.state = .stall ∧ rest.length < 16 then .sweep else c.engine.state } } := by
  simp only [State.takeWork, Fin.getElem_fin, h]
  refine State.onChan_congr _ _ ?_
  by_cases hx : s.chan[ch.val].engine.state = .stall ∧ rest.length < 16 <;>
    simp [Engine.unstall, Config.failQueueDepth, hx]

/-- The take of an analysis request (R127). -/
theorem State.takeWork_analysis (s : State) (ch : Chan) (flag : Bool) (h : s.chan[ch.val].queue.records = [])
    (hr : s.chan[ch.val].allocation.request = some flag) :
    s.takeWork ch = (s.setAllocator { item := .analysis ch flag, lastServed := ch }).onAllocation ch fun a =>
      { a with request := none } := by simp only [State.takeWork, Fin.getElem_fin, h, hr]

/-- A take leaves an allocator that is not idle, or no work was there. -/
theorem State.takeWork_item (s : State) (ch : Chan) (h : s.chan[ch.val].hasWork = true) :
    (s.takeWork ch).allocator.item ≠ .idle := by
  cases hq : s.chan[ch.val].queue.records with
  | cons f rest => rw [State.takeWork_record s ch f rest hq]; simp
  | nil =>
    cases hr : s.chan[ch.val].allocation.request with
    | some flag => rw [State.takeWork_analysis s ch flag hq hr]; simp
    | none => simp [Channel.hasWork, hq, hr] at h

/-- The choice changes no table, line, store, token or loader. -/
theorem State.choose_frame (s : State) :
    s.choose.table = s.table ∧ s.choose.spare = s.spare ∧ s.choose.store = s.store ∧ s.choose.arbiter = s.arbiter
      ∧ s.choose.loader = s.loader ∧ s.choose.reply = s.reply ∧ s.choose.spiOut = s.spiOut
      ∧ s.choose.pending = s.pending := by
  unfold State.choose State.takeWork
  split
  · split
    · split
      · exact ⟨rfl, rfl, rfl, rfl, rfl, rfl, rfl, rfl⟩
      · split <;> exact ⟨rfl, rfl, rfl, rfl, rfl, rfl, rfl, rfl⟩
    · exact ⟨rfl, rfl, rfl, rfl, rfl, rfl, rfl, rfl⟩
  · exact ⟨rfl, rfl, rfl, rfl, rfl, rfl, rfl, rfl⟩

/-! ## The Row Tally (R132) -/

theorem tally_any_ofRow (tally : List TallyEntry) (bank : Bank) (row : Row) :
    (tally.any fun t => t.ofRow bank row) = true ↔ ∃ t ∈ tally, t.bank = bank ∧ t.row = row := by
  simp [TallyEntry.ofRow]

/-- A row in the tally leaves it as it is. -/
theorem tallyStep_present (tally : List TallyEntry) (bank : Bank) (row : Row)
    (h : ∃ t ∈ tally, t.bank = bank ∧ t.row = row) : tallyStep tally bank row = some tally := by
  simp [tallyStep, (tally_any_ofRow tally bank row).2 h]

theorem tally_any_absent (tally : List TallyEntry) (bank : Bank) (row : Row)
    (h : ∀ t ∈ tally, ¬ (t.bank = bank ∧ t.row = row)) : (tally.any fun t => t.ofRow bank row) = false := by
  rw [Bool.eq_false_iff, ne_eq, tally_any_ofRow]
  rintro ⟨t, ht, e⟩
  exact h t ht e

/-- A new row joins a tally of fewer than 8. -/
theorem tallyStep_joins (tally : List TallyEntry) (bank : Bank) (row : Row)
    (h : ∀ t ∈ tally, ¬ (t.bank = bank ∧ t.row = row)) (hl : tally.length < 8) :
    tallyStep tally bank row = some (tally ++ [{ bank := bank, row := row, count := 0, mustRemap := false }]) := by
  simp [tallyStep, tally_any_absent tally bank row h, Config.tallyDepth, hl]

/-- A new row takes the place of the oldest unmarked row of a full tally. -/
theorem tallyStep_evicts (older younger : List TallyEntry) (evicted : TallyEntry) (bank : Bank) (row : Row)
    (h : ∀ t ∈ older ++ evicted :: younger, ¬ (t.bank = bank ∧ t.row = row))
    (hl : 8 ≤ (older ++ evicted :: younger).length) (ho : ∀ t ∈ older, t.mustRemap = true)
    (he : evicted.mustRemap = false) :
    tallyStep (older ++ evicted :: younger) bank row
      = some (older ++ younger ++ [{ bank := bank, row := row, count := 0, mustRemap := false }]) := by
  have hn : List.findIdx? (fun t : TallyEntry => !t.mustRemap) older = none := by
    rw [List.findIdx?_eq_none_iff]
    intro t ht
    simp [ho t ht]
  have hf : (older ++ evicted :: younger).findIdx? (fun t => !t.mustRemap) = some older.length := by
    rw [List.findIdx?_append]
    simp [hn, List.findIdx?_cons, he]
  rw [tallyStep, tally_any_absent _ bank row h]
  simp only [Bool.false_eq_true, if_false, Config.tallyDepth, Nat.not_lt.mpr hl, hf]
  rw [List.eraseIdx_append_of_length_le (by omega)]
  simp

/-- A full tally of marked rows overflows. -/
theorem tallyStep_overflows (tally : List TallyEntry) (bank : Bank) (row : Row)
    (h : ∀ t ∈ tally, ¬ (t.bank = bank ∧ t.row = row)) (hl : 8 ≤ tally.length)
    (hm : ∀ t ∈ tally, t.mustRemap = true) : tallyStep tally bank row = none := by
  have hf : tally.findIdx? (fun t => !t.mustRemap) = none := by
    rw [List.findIdx?_eq_none_iff]
    intro t ht
    simp [hm t ht]
  rw [tallyStep, tally_any_absent _ bank row h]
  simp [Config.tallyDepth, Nat.not_lt.mpr hl, hf]

/-- A creation's growth keeps the rows of the tally. -/
theorem tallyGrow_rows (tally : List TallyEntry) (bank : Bank) (row : Row) (threshold : Nat) :
    (tallyGrow tally bank row threshold).map (fun t => (t.bank, t.row)) = tally.map fun t => (t.bank, t.row) := by
  rw [tallyGrow, List.map_map]
  apply List.map_congr_left
  intro t _
  simp only [Function.comp]
  split <;> rfl

/-! ## Reserve rows (R134) -/

/-- Setting a reserve row that the lists hold gives it the state and leaves every other alone. -/
theorem reserveAt_setReserve (lists : List (List ReserveState)) (bank bank' : Bank) (reserve reserve' : Nat)
    (st : ReserveState) (h : (reserveAt lists bank reserve).isSome = true) :
    reserveAt (setReserve lists bank reserve st) bank' reserve'
      = if bank' = bank ∧ reserve' = reserve then some st else reserveAt lists bank' reserve' := by
  obtain ⟨old, hold⟩ := Option.isSome_iff_exists.1 h
  simp only [reserveAt, Option.bind_eq_some_iff] at hold
  obtain ⟨l, hl, hr⟩ := hold
  have hb : bank.toNat < lists.length := (List.getElem?_eq_some_iff.1 hl).1
  have hi : reserve < l.length := (List.getElem?_eq_some_iff.1 hr).1
  have hd : lists.getD bank.toNat [] = l := by rw [List.getD_eq_getElem?_getD, hl]; rfl
  simp only [reserveAt, setReserve, hd]
  by_cases e : bank' = bank
  · subst e
    rw [List.getElem?_set_self hb]
    simp only [Option.bind_some, true_and]
    by_cases e' : reserve' = reserve
    · subst e'
      simp [hi]
    · rw [List.getElem?_set_ne (Ne.symm e'), if_neg e', hl]
      rfl
  · have ne : bank.toNat ≠ bank'.toNat := fun h => e (BitVec.eq_of_toNat_eq h.symm)
    rw [List.getElem?_set_ne ne, if_neg (fun h => e h.1)]

/-- The lowest GOOD reserve row of a bank is one that is GOOD (R138). -/
theorem lowestGood_good {lists : List (List ReserveState)} {bank : Bank} {reserve : Nat}
    (h : lowestGood lists bank = some reserve) : reserveAt lists bank reserve = some .good := by
  unfold lowestGood at h
  cases hl : lists[bank.toNat]? with
  | none => simp [hl] at h
  | some l =>
    rw [List.getD_eq_getElem?_getD, hl, Option.getD_some] at h
    obtain ⟨hi, hg, _⟩ := List.findIdx?_eq_some_iff_getElem.1 h
    rw [beq_iff_eq] at hg
    simp [reserveAt, hl, hg, List.getElem?_eq_getElem hi]

end Sys2Proof.Machine
end

