-- ==== Sys2Proof/Laws/Engine.lean ====
section
/-! SUPPORT. The March Engine's shared operations as one update of the channel each: an owed refresh, steps 1 and 2 of R85,
the entry of HOLD and DRAIN, a report, and the end of a run (Chapters 5, 6 and 9). -/

namespace Sys2Proof.Machine

/-- An update that leaves its channel as it stands changes nothing. -/
theorem State.onChan_id (s : State) (ch : Chan) (f : Channel → Channel) (h : f s.chan[ch.val] = s.chan[ch.val]) :
    s.onChan ch f = s := by
  refine State.ext_chan (fun ch' => ?_) rfl rfl rfl rfl rfl rfl rfl rfl rfl
  rw [State.onChan_chan]
  split
  · rename_i hc
    rw [← hc, h]
  · rfl

/-! ## Refresh (R94) -/

/-- Servicing an owed refresh. -/
theorem State.serviceOwed_eq (s : State) (ch : Chan) : s.serviceOwed ch = s.onChan ch fun c =>
    { c with
      pins := { c.pins with toDevice := c.pins.toDevice ++ refreshCommands c.engine.refreshOwed }
      engine := { c.engine with
        refreshOwed := false
        banks := if c.engine.refreshOwed then allClosed else c.engine.banks
        counters := { c.engine.counters with
          refreshes := if c.engine.refreshOwed then Counter.inc c.engine.counters.refreshes
            else c.engine.counters.refreshes } } } := by
  unfold State.serviceOwed State.serviceRefresh State.engineCloseAll State.issueRefresh
  cases h : s.chan[ch.val].engine.refreshOwed
  · simp only [Bool.false_eq_true, if_false]
    rw [State.onChan_id]
    simp only [refreshCommands, h, Bool.false_eq_true, if_false, List.append_nil]
    have e : s.chan[ch.val].engine = { s.chan[ch.val].engine with refreshOwed := false } := by rw [← h]
    rw [← e]
  · simp only [if_true, State.drive_eq, State.onEngine_eq, State.onChan_onChan]
    exact State.onChan_congr _ _ (by simp [h, refreshCommands])

/-- One REFRESH for an owed refresh, the banks being closed already (R106). -/
theorem State.issueOwed_eq (s : State) (ch : Chan) :
    (if s.chan[ch.val].engine.refreshOwed = true then s.issueRefresh ch else s) = s.onChan ch fun c =>
      { c with
        pins := { c.pins with toDevice := c.pins.toDevice ++ if c.engine.refreshOwed then [.refresh] else [] }
        engine := { c.engine with
          refreshOwed := false
          counters := { c.engine.counters with
            refreshes := if c.engine.refreshOwed then Counter.inc c.engine.counters.refreshes
              else c.engine.counters.refreshes } } } := by
  cases h : s.chan[ch.val].engine.refreshOwed
  · rw [State.onChan_id]
    · simp
    · simp only [h, Bool.false_eq_true, if_false, List.append_nil]
      have e : s.chan[ch.val].engine = { s.chan[ch.val].engine with refreshOwed := false } := by rw [← h]
      rw [← e]
  · simp only [if_true, State.issueRefresh, State.drive_eq, State.onEngine_eq, State.onChan_onChan]
    exact State.onChan_congr _ _ (by simp [h])

/-! ## Steps 1 and 2 of R85 -/

/-- The owed refresh and the opening of the target row, as one update. -/
theorem State.openTarget_serviceOwed (s : State) (ch : Chan) (a : Address) :
    (s.serviceOwed ch).openTarget ch a = s.onChan ch fun c =>
      { c with
        pins := { c.pins with toDevice := c.pins.toDevice ++ s.chan[ch.val].engine.commandsAt a (s.enginePhysicalRow ch a) }
        engine := s.chan[ch.val].engine.atAddress a (s.enginePhysicalRow ch a) } := by
  have hp : ∀ f : Channel → Channel, (f s.chan[ch.val]).engine.phase = s.chan[ch.val].engine.phase →
      (f s.chan[ch.val]).setup = s.chan[ch.val].setup →
      (s.onChan ch f).enginePhysicalRow ch a = s.enginePhysicalRow ch a := by
    intro f h1 h2
    simp only [State.enginePhysicalRow, Fin.getElem_fin, State.onChan_same, h1]
    cases s.chan[ch.val].engine.phase
    · rfl
    · exact State.physicalRow_congr (s := s.onChan ch f) (t := s) ch rfl (by simpa using h2) _ _ _
  rw [State.serviceOwed_eq]
  unfold State.openTarget State.engineOpen
  simp only [Fin.getElem_fin, State.onChan_same, Engine.commandsAt, rowCommands, Engine.atAddress, rowsAfter]
  cases hb : bankAt (if s.chan[ch.val].engine.refreshOwed then allClosed else s.chan[ch.val].engine.banks) a.bank with
  | none =>
    simp only
    rw [hp _ rfl rfl]
    simp only [State.drive_eq, State.onEngine_eq, State.onChan_onChan]
    exact State.onChan_congr _ _ (by simp)
  | some o =>
    by_cases ho : o.target = a.row
    · simp only [ho, if_true]
      exact State.onChan_congr _ _ (by simp)
    · simp only [ho, if_false, State.drive_eq, State.onEngine_eq, State.onChan_onChan]
      rw [hp _ rfl rfl]
      exact State.onChan_congr _ _ (by simp [setBank])

/-- What the expected word depends on. -/
theorem State.expectedWord_congr {s t : State} (ch : Chan) (h : s.store = t.store) (hl : s.spare = t.spare)
    (hs : s.chan[ch.val].setup = t.chan[ch.val].setup) (hp : s.chan[ch.val].patterns = t.chan[ch.val].patterns)
    (h1 : s.chan[ch.val].engine.position = t.chan[ch.val].engine.position)
    (h2 : s.chan[ch.val].engine.passSeed = t.chan[ch.val].engine.passSeed)
    (h3 : s.chan[ch.val].engine.pass = t.chan[ch.val].engine.pass) (o : Op) (a : Address) :
    s.expectedWord ch o a = t.expectedWord ch o a := by
  simp [State.expectedWord, h, hl, h1, h2, h3, Channel.geometry, hs, Channel.background, hp]

/-! ## Entering HOLD and DRAIN -/

theorem State.startHold_eq (s : State) (ch : Chan) (duration : Nat) :
    s.startHold ch duration = s.onChan ch fun c => { c with timers := { c.timers with
      hold := some { duration := (c.holdDuration duration).1, elapsed := 0 }
      holdClamps := if (c.holdDuration duration).2 then Counter.inc c.timers.holdClamps else c.timers.holdClamps } } := by
  unfold State.startHold
  rw [State.onTimers_eq]
  exact State.onChan_congr _ _ (by simp only [Fin.getElem_fin])

/-- The entry of HOLD (R95, R106, R109). -/
theorem State.enterHold_eq (s : State) (ch : Chan) (duration : Nat) (refresh : HoldRefresh) :
    s.enterHold ch duration refresh = s.onChan ch fun c =>
      let e := c.engine
      { c with
        pins := { c.pins with toDevice := c.pins.toDevice ++ .closeAll ::
          (if e.refreshOwed then (if refresh = .keep then [.closeAll, .refresh] else [.refresh]) else []) }
        engine := { e with
          state := .hold, banks := allClosed, refreshOwed := false
          counters := { e.counters with
            refreshes := if e.refreshOwed then Counter.inc e.counters.refreshes else e.counters.refreshes } }
        timers := { c.timers with
          refreshMode := if refresh = .stop ∧ c.timers.refreshMode = .running then .paused else c.timers.refreshMode
          hold := some { duration := (c.holdDuration duration).1, elapsed := 0 }
          holdClamps := if (c.holdDuration duration).2 then Counter.inc c.timers.holdClamps
            else c.timers.holdClamps } } := by
  unfold State.enterHold State.engineCloseAll
  cases refresh with
  | keep =>
    simp only
    rw [State.serviceOwed_eq, State.startHold_eq]
    simp only [State.drive_eq, State.onEngine_eq, State.onChan_onChan]
    exact State.onChan_congr _ _ (by simp [refreshCommands, Channel.holdDuration]; rfl)
  | stop =>
    simp only [Fin.getElem_fin]
    rw [State.issueOwed_eq, State.startHold_eq]
    simp only [State.drive_eq, State.onEngine_eq, State.onTimers_eq, State.onChan_onChan]
    refine State.onChan_congr _ _ ?_
    by_cases hm : s.chan[ch.val].timers.refreshMode = .running <;>
      simp [hm, Channel.holdDuration, Timers.pause] <;> rfl

/-- A report moves the channel from the states it is taken in, and no other (R150). -/
theorem State.report_eq (s : State) (ch : Chan) (takenIn : List ChannelState) (after : ChannelState) :
    s.report ch takenIn after = s.onControl ch fun k => { k with state := if k.state ∈ takenIn then after else k.state } := by
  unfold State.report
  split
  · rename_i h
    exact State.onChan_congr _ _ (by simp at h; simp [h])
  · rename_i h
    rw [State.onControl_eq, State.onChan_id]
    simp at h
    simp [h]

/-- The entry of DRAIN (R96, R150). -/
theorem State.enterDrain_eq (s : State) (ch : Chan) (takenIn : List ChannelState) :
    s.enterDrain ch takenIn = (s.onChan ch fun c =>
      let e := c.engine
      { c with
        pins := { c.pins with toDevice := c.pins.toDevice ++ .closeAll :: refreshCommands e.refreshOwed }
        engine := { e with
          state := .drain, banks := allClosed, refreshOwed := false
          counters := { e.counters with
            refreshes := if e.refreshOwed then Counter.inc e.counters.refreshes else e.counters.refreshes } }
        control := { c.control with
          state := if c.control.state ∈ takenIn then .analysing else c.control.state } }).drainTest ch := by
  unfold State.enterDrain State.engineCloseAll
  dsimp only
  rw [State.report_eq, State.serviceOwed_eq]
  congr 1
  simp only [State.drive_eq, State.onEngine_eq, State.onControl_eq, State.onChan_onChan]
  exact State.onChan_congr _ _ (by simp)

/-- Fuel beyond one record is needed by a REPEAT alone. -/
theorem State.takeElement_fuel (ch : Chan) (m n : Nat) (s : State)
    (h : ∀ span count, elementAt s.store s.chan[ch.val].engine.position ≠ .repeated span count) :
    State.takeElement ch (m + 1) s = State.takeElement ch (n + 1) s := by
  unfold State.takeElement
  simp only [Fin.getElem_fin]
  cases hh : elementAt s.store s.chan[ch.val].engine.position <;> simp [hh] at h ⊢

/-! ## The end of a run (R151) -/

@[simp] theorem State.copyResult_table (s : State) (ch : Chan) : (s.copyResult ch).table = s.table := rfl
@[simp] theorem State.copyResult_spare (s : State) (ch : Chan) : (s.copyResult ch).spare = s.spare := rfl
@[simp] theorem State.stopClock_table (s : State) (ch : Chan) : (s.stopClock ch).table = s.table := rfl
@[simp] theorem State.stopClock_spare (s : State) (ch : Chan) : (s.stopClock ch).spare = s.spare := rfl
@[simp] theorem State.enterService_table (s : State) (ch : Chan) (o : RunOutcome) :
    (s.enterService ch o).table = s.table := rfl
@[simp] theorem State.enterService_spare (s : State) (ch : Chan) (o : RunOutcome) :
    (s.enterService ch o).spare = s.spare := rfl

/-- The two ends of a run. -/
theorem State.endRun_eq (s : State) (ch : Chan) : s.endRun ch =
    if s.chan[ch.val].condemned then
      (((s.stopClock ch).returnLines ch).copyResult ch).onControl ch fun k =>
        { k with state := .failed, outcome := .failed }
    else
      ((((s.stopClock ch).commit ch).returnLines ch).copyResult ch).enterService ch
        (if s.substituteCount ch + s.remapCount ch = 0 then .pass else .repaired) := by
  have h1 : (s.stopClock ch).chan[ch.val].condemned = s.chan[ch.val].condemned := by
    simp [State.stopClock, Channel.condemned]
  have h2 : (s.stopClock ch).substituteCount ch = s.substituteCount ch := rfl
  have h3 : (s.stopClock ch).remapCount ch = s.remapCount ch := rfl
  unfold State.endRun
  simp only [State.outcomeOf, Fin.getElem_fin, h1, h2, h3]
  by_cases h : s.chan[ch.val].condemned = true
  · simp [h]
  · by_cases h4 : s.substituteCount ch + s.remapCount ch = 0
    · simp [h, h4]
    · simp only [h, if_neg h4]
      simp

end Sys2Proof.Machine
end

