-- ==== Sys2Proof/Laws/Framing.lean ====
section
/-! SUPPORT. What a transaction of the maintenance port can do (R168). -/

namespace Sys2Proof.Machine

/-- A write transaction puts at most one command last in the queue, and does nothing else. -/
theorem State.portWrite_spec (s : State) (address : BitVec 7) (bytes : List Byte) :
    s.portWrite address bytes = s
      ∨ ∃ c : Instr, commandOfWrite bytes = some c ∧ s.portWrite address bytes = s.setPending (s.pending ++ [c]) := by
  unfold State.portWrite
  split
  · cases h : commandOfWrite bytes with
    | none => exact .inl rfl
    | some c => exact .inr ⟨c, rfl, rfl⟩
  · exact .inl rfl

/-- A read transaction that is acknowledged returns the bytes it asks for, each as `State.replyByte` gives it. -/
theorem State.portRead_spec (s : State) (address : BitVec 7) (n : Nat) (bytes : List Byte)
    (h : s.portRead address n = some bytes) : bytes.length = n ∧ ∀ i : Nat, i < n → bytes[i]? = some (s.replyByte i) := by
  unfold State.portRead at h
  split at h
  · obtain rfl := Option.some.inj h
    exact ⟨by simp, fun i hi => by simp [hi]⟩
  · cases h

end Sys2Proof.Machine
end

