-- ==== Sys2Proof/Laws/Path.lean ====
section
/-! SUPPORT. The read return list: which item a device return answers, and what the answering of poison items does (R53,
R59). -/

namespace Sys2Proof.Machine

theorem oldestWaiting_none (returns : List ReturnItem) (h : ∀ item ∈ returns, item = .poison) :
    oldestWaiting returns = none := by
  induction returns with
  | nil => rfl
  | cons item rest ih =>
    obtain rfl := h item (by simp)
    rw [oldestWaiting]
    simp [ReturnItem.waits, ih fun i hi => h i (by simp [hi])]

/-- An oldest item that is no poison is the one answered. -/
theorem oldestWaiting_head (item : ReturnItem) (rest : List ReturnItem) (h : item ≠ .poison) :
    oldestWaiting (item :: rest) = some (item, rest) := by cases item <;> simp_all [oldestWaiting, ReturnItem.waits]

/-- The poison items at the old end of a list are answered, and the rest is kept. -/
theorem State.flushPoison_eq (ch : Chan) : ∀ (rest : List ReturnItem) (s : State),
    State.flushPoison ch rest s = s.onChan ch fun c => { c with
      pins := { c.pins with
        toController := c.pins.toController ++ (rest.takeWhile fun x => x == .poison).map fun _ => poisonWord }
      path := { c.path with returns := rest.dropWhile fun x => x == .poison } }
  | [], s => by simp [State.flushPoison, State.onPath_eq]
  | .poison :: rest, s => by
    rw [State.flushPoison, State.flushPoison_eq ch rest, State.deliver_eq, State.onChan_onChan]
    exact State.onChan_congr _ _ (by simp)
  | .device :: rest, s => by simp [State.flushPoison, State.onPath_eq]
  | .captured w :: rest, s => by simp [State.flushPoison, State.onPath_eq]

end Sys2Proof.Machine
end

