-- ==== Sys2Proof/Laws/PerInstr.lean ====
section
/-! SUPPORT. Statements made once for each command. `Unspelled`: no word spells the command, since the table gives no row
any bits (notes/assumptions/3.md). -/

namespace Sys2Proof.Laws.Unspelled

/-- No word spells the command. -/
def Statement (i : Instr) : Prop := ∀ nbits w : Nat, decodeTableWord nbits w ≠ some i

theorem powerOnReset : Statement .powerOnReset := fun _ _ => nofun

theorem warmRestart : Statement .warmRestart := fun _ _ => nofun

theorem headerCheck (header : List Byte) : Statement (.headerCheck header) := fun _ _ => nofun

theorem imageCheck (rest : List Byte) (order : List Chan) : Statement (.imageCheck rest order) := fun _ _ => nofun

theorem getStatus (arg : Byte) : Statement (.getStatus arg) := fun _ _ => nofun

theorem getResult (arg : Byte) : Statement (.getResult arg) := fun _ _ => nofun

theorem getEntry (arg : Byte) : Statement (.getEntry arg) := fun _ _ => nofun

theorem getTally (arg : Byte) : Statement (.getTally arg) := fun _ _ => nofun

theorem getReserve (arg : Byte) : Statement (.getReserve arg) := fun _ _ => nofun

theorem getCounters (arg : Byte) : Statement (.getCounters arg) := fun _ _ => nofun

theorem retest (arg : Byte) : Statement (.retest arg) := fun _ _ => nofun

theorem abort (arg : Byte) : Statement (.abort arg) := fun _ _ => nofun

theorem acknowledge (arg : Byte) : Statement (.acknowledge arg) := fun _ _ => nofun

theorem unknownCommand (code : Byte) (arg : Byte) : Statement (.unknownCommand code arg) := fun _ _ => nofun

theorem openRow (ch : Chan) (bank : Bank) (row : Row) : Statement (.openRow ch bank row) := fun _ _ => nofun

theorem read (ch : Chan) (bank : Bank) (column : Column) : Statement (.read ch bank column) := fun _ _ => nofun

theorem write (ch : Chan) (bank : Bank) (column : Column) (word : Word) (lanes : Lanes) : Statement (.write ch bank column word lanes) := fun _ _ => nofun

theorem closeBank (ch : Chan) (bank : Bank) : Statement (.closeBank ch bank) := fun _ _ => nofun

theorem closeAll (ch : Chan) : Statement (.closeAll ch) := fun _ _ => nofun

theorem refresh (ch : Chan) : Statement (.refresh ch) := fun _ _ => nofun

theorem modeSet (ch : Chan) (register : BitVec 4) (value : BitVec 16) : Statement (.modeSet ch register value) := fun _ _ => nofun

theorem deviceReadReturn (ch : Chan) (word : Word) : Statement (.deviceReadReturn ch word) := fun _ _ => nofun

theorem prepareRun (ch : Chan) : Statement (.prepareRun ch) := fun _ _ => nofun

theorem engineWrite (ch : Chan) : Statement (.engineWrite ch) := fun _ _ => nofun

theorem engineRead (ch : Chan) : Statement (.engineRead ch) := fun _ _ => nofun

theorem holdTimerExpiry (ch : Chan) : Statement (.holdTimerExpiry ch) := fun _ _ => nofun

theorem refreshTimerExpiry (ch : Chan) : Statement (.refreshTimerExpiry ch) := fun _ _ => nofun

theorem serviceCompletion : Statement .serviceCompletion := fun _ _ => nofun

theorem analysisCompletion : Statement .analysisCompletion := fun _ _ => nofun

theorem runClockMillisecond (ch : Chan) : Statement (.runClockMillisecond ch) := fun _ _ => nofun

end Sys2Proof.Laws.Unspelled
end

