-- ==== Sys2Proof/Tests/Slice0.lean ====
section
/-! SUPPORT. Tests of one step or one computation each, with their expected results taken from the manual's worked cases,
and for every statement with hypotheses a theorem that shows states and operands which meet them, clause by clause. -/

open Sys2Proof Sys2Proof.Machine

namespace Sys2Proof.Tests

-- The theorems are checked one after another, so that no more threads are asked for than the checks allow.
set_option Elab.async false

/-! ## Well-formedness: each check refuses an ill-formed term -/

theorem test_wf_header_length :
    (Instr.headerCheck (List.replicate 16 0)).WellFormed = true ∧ (Instr.headerCheck (List.replicate 15 0)).WellFormed = false
      ∧ (Instr.headerCheck (List.replicate 17 0)).WellFormed = false := by decide

theorem test_wf_image_length :
    (Instr.imageCheck (List.replicate 48 0) [2, 0, 3, 1]).WellFormed = true
      ∧ (Instr.imageCheck (List.replicate 47 0) [2, 0, 3, 1]).WellFormed = false
      ∧ (Instr.imageCheck (List.replicate 4080 0) [0, 1, 2, 3]).WellFormed = true
      ∧ (Instr.imageCheck (List.replicate 4081 0) [0, 1, 2, 3]).WellFormed = false := by decide +kernel

theorem test_wf_image_order :
    (Instr.imageCheck (List.replicate 48 0) [0, 1, 2]).WellFormed = false
      ∧ (Instr.imageCheck (List.replicate 48 0) [0, 1, 2, 2]).WellFormed = false
      ∧ (Instr.imageCheck (List.replicate 48 0) [0, 1, 2, 3, 3]).WellFormed = false := by decide +kernel

theorem test_wf_unknown_code :
    (Instr.unknownCommand 0x07#8 0).WellFormed = true ∧ (Instr.unknownCommand 0x10#8 0).WellFormed = false
      ∧ (Instr.unknownCommand 0x01#8 0).WellFormed = false := by decide

/-- The table gives no row any bits. -/
theorem test_no_word_spells_a_command : decodeTableWord 8 0x10 = none := rfl

/-! ## Chapter 1 and 2: masks, sweeps, backgrounds, compares and matches -/

/-- Table 1.3. -/
theorem test_span_mask_clamp :
    clampMask 6 0b10001011 = 0b1011#10 ∧ clampMask 6 0b1111 = 0b111#10 ∧ clampMask 4 0b1000110100 = 0b100#10
      ∧ clampMask 10 0 = 0#10 := by decide

/-- The channel of the manual's worked cases: b = 2, r = 10, c = 6 and Q = 8. -/
def geo : Geometry := ⟨2, 10, 6, 8⟩

/-- Table 2.2, and the other addresses of its worked case. -/
theorem test_sweep_positions :
    let raw (d : Direction) := newSweep geo .raw d 64
    sweepAddress geo .columnFast (raw .up) 5 = ⟨0, 256, 5⟩ ∧ sweepAddress geo .columnFast (raw .down) 5 = ⟨3, 255, 59⟩
      ∧ sweepAddress geo .rowFast (raw .up) 5 = ⟨1, 5, 0⟩ := by decide +kernel

theorem test_sweep_positions_verify :
    let verify := newSweep geo .verify .up 64
    verify.start = 65024 ∧ sweepAddress geo .columnFast verify 5 = ⟨0, 254, 5⟩
      ∧ sweepAddress geo .rowFast verify 5 = ⟨1, 5, 0⟩
      ∧ (indexAddress geo .columnFast 1016 260095).row = 1015 := by decide +kernel

/-- The edge cases of section 2.1: DOWN wraps from index 0 to N − 1, and s is rounded down. -/
theorem test_sweep_edges :
    sweepIndex 262144 0 .down 0 = 0 ∧ sweepIndex 262144 0 .down 1 = 262143
      ∧ (newSweep ⟨0, 10, 4, 3⟩ .verify .up 100).start = 6381 := by decide +kernel

/-- Table 2.4 and the pass seeds after it. -/
theorem test_random_word :
    addressKey geo ⟨0, 256, 5⟩ = 0x4005 ∧ randomWord 0x1D2C#16 0x4005 = 0x9A944D4A26A5A752A9#72
      ∧ passSeedOf 0x1D2C#16 1 = 0x0E96#16 ∧ passSeedOf 0x1D2C#16 2 = 0x074B#16
      ∧ passSeedOf 0x1D2C#16 3 = 0xB7A5#16 := by decide +kernel

/-- The backgrounds at (0, 256, 5), and the complement that an INVERSE operation expects (section 2.2). -/
theorem test_backgrounds :
    trueWord geo .checker zeroLine 0 ⟨0, 256, 5⟩ = BitVec.allOnes 72
      ∧ trueWord geo .laneWalk zeroLine 0 ⟨0, 256, 5⟩ = 0xFF0000000000#72
      ∧ Op.readInverse.expected 0x9A944D4A26A5A752A9#72 = 0x656BB2B5D95A58AD56#72 := by decide +kernel

/-- The two compares of section 2.3. -/
theorem test_compares :
    let first := failingBits 0xFFFFFFFFFFF7FFFFFF#72 (BitVec.allOnes 72)
    let second := failingBits 0x1A944D4A26A5A752A8#72 0x9A944D4A26A5A752A9#72
    first = 0x8000000#72 ∧ laneSet first = 0b1000#9 ∧ failingCount first = 1
      ∧ laneSet second = 0b100000001#9 ∧ failingCount second = 2 := by decide +kernel

/-- Table 2.5 and the second channel of its worked case. -/
theorem test_matches_and_offsets :
    let hit (accessed : Column) := columnMatches geo 3 4 accessed
    (hit 4 ∧ hit 5 ∧ hit 6 ∧ hit 7 ∧ hit 8 = false ∧ hit 36 = false) ∧ spareOffset 3 5 = 1 ∧ spareOffset 3 6 = 2
      ∧ normalisedColumn 3 7 = 4 ∧ compareMask geo 9 = 54 ∧ spareOffset 9 9 = 3 ∧ normalisedColumn 9 9 = 0 := by
  decide +kernel

/-! ## Chapter 4: validation and plans -/

/-- A MARCH element with rotation 0. -/
def march (d : Direction) (ops : List Op) (background : BackgroundKind := .solid) (joined : Bool := false) : Element :=
  .march { direction := d, joined := joined, rotation := 0, slots := ops.map some ++ List.replicate (4 - ops.length) none,
           background := background, seed := 0x1D2C#16, pattern := 0 }

/-- Table 4.7, record by record. -/
def workedRecords : List Element :=
  [march .up [.writeTrue], march .up [.readTrue, .writeInverse], march .down [.readInverse, .writeTrue],
   .hold 64 .stop, march .up [.readTrue], march .up [.writeTrue] .random, march .down [.readTrue] .random,
   .repeated 2 3, .analyse, march .up [.writeTrue, .readTrue] .checker, march .up [.writeTrue], .finish]

/-- A Program Store that holds these records from index 0 on. -/
def storeFrom (records : List Element) : Vector Element 64 := Vector.ofFn fun i : Fin 64 => records.getD i.val .empty

/-- The worked program with one record changed. -/
def workedWith (i : Nat) (e : Element) : Vector Element 64 := storeFrom (workedRecords.set i e)

/-- The reason that refuses a program, or NONE. -/
def refusal (store : Vector Element 64) (start : Nat) : SettingsError :=
  match validate store start with
  | .error reason => reason
  | .ok _ => .none

/-- Table 4.6. -/
theorem test_validation :
    refusal (storeFrom workedRecords) 0 = .none ∧ refusal (storeFrom workedRecords) 6 = .spanBeforeStart
      ∧ refusal (workedWith 7 (.repeated 7 3)) 0 = .none ∧ refusal (workedWith 7 (.repeated 8 3)) 0 = .spanBeforeStart
      ∧ refusal (workedWith 10 .analyse) 0 = .secondAnalyse ∧ refusal (workedWith 10 (.repeated 2 1)) 0 = .spanContent
      ∧ refusal (workedWith 4 (march .up [])) 0 = .emptyMarch ∧ refusal (workedWith 11 .empty) 0 = .badKind
      ∧ refusal (workedWith 11 (march .up [.readTrue])) 0 = .badKind
      ∧ refusal (workedWith 4 (march .up [])) 6 = .spanBeforeStart
      ∧ refusal (workedWith 4 (march .up [])) 9 = .none := by decide +kernel

/-- Table 4.8. -/
theorem test_plan :
    let plan := buildPlan (storeFrom workedRecords) 0 11
    plan.path.length = 12 ∧ plan.phaseBoundary = some 8 ∧ plan.spans = [⟨7, 5, 3⟩]
      ∧ plan.chains = [[0], [1], [2], [4], [5], [6], [9], [10]] ∧ plan.joinsIgnored = 0 ∧ plan.patterns = [] := by
  decide +kernel

/-- Tables 4.4 and 4.5, with the fragment placed at index 20 and an END after it. -/
theorem test_joins :
    let plan := buildPlan (storeFrom (List.replicate 20 .empty ++
      [march .up [.readTrue, .writeInverse] .solid true, march .down [.readInverse, .writeTrue] .solid true,
       march .up [.readTrue, .writeInverse, .readInverse] .solid true, march .up [.writeTrue] .checker true,
       march .up [.readTrue] .checker true, .hold 10 .keep, .finish])) 20 26
    plan.chains = [[20, 21, 22], [23, 24]] ∧ plan.joinsIgnored = 2 := by decide +kernel

/-! ## Small states -/

/-- The state after a command; every command has one. -/
def run (c : Instr) (s : State) : State :=
  match exec c s with
  | .next t => t
  | .fault _ => s
  | .refused _ => s

/-- The settings of the worked channel: span mask A {0, 1}, threshold 3, a refresh interval of 7.8 µs and a retention limit
of 48 ms. -/
def settings : Settings :=
  { geometry := geo, sweepOrder := .columnFast, scope := .exact, maskA := 3, maskB := 0, threshold := 3,
    refreshInterval := 78, retentionLimit := 48, programStart := 0, modeSets := [⟨1, 0x1234⟩] }

def plan : Plan :=
  { path := [], phaseBoundary := some 8, spans := [⟨7, 5, 3⟩],
    chains := [[0], [1], [2], [4], [5], [6], [9], [10]], joinsIgnored := 0, patterns := [1] }

/-- A channel with the worked settings and plan, in FAILED. -/
def idleChannel : Channel :=
  { Channel.reset with
    control := { Control.reset with state := .failed, outcome := .aborted }
    setup := { enabled := true, settings := some settings, code := .none, plan := some plan, dropped := 0 }
    allocation := { ChannelAllocation.reset with reserve := List.replicate 4 (List.replicate 8 .good) } }

/-- The machine after start-up with the worked program, every channel in FAILED. -/
def idle : State :=
  { State.reset with
    chan := Vector.replicate 4 idleChannel
    store := storeFrom workedRecords
    loader := { Loader.reset (some 7) with phase := .finished, status := .good, policy := some .keep }
    spiOut := [] }

def remap : Repair := { channel := 0, origin := .carried, bank := 1, row := 512, kind := .remap 2 }

def substitute : Repair := { channel := 0, origin := .found, bank := 0, row := 256, kind := .substitute 4 .spanA }

def otherRepair : Repair := { channel := 3, origin := .found, bank := 3, row := 1015, kind := .substitute 63 .exact }

def ones : Word := 0x111111111111111111#72

/-- The sequence of Table 3.4 before its step 1: channel 0 in SERVICE with entry 0 a REMAP and entry 3 a SUBSTITUTE.
Channel 3 holds a TENTATIVE entry, and entry 57 is lent. -/
def serving : State :=
  let s := idle.onChan 0 fun c => { c with
    control := { c.control with state := .service, outcome := .repaired, runCount := 1 }
    allocation := { c.allocation with reserve := setReserve c.allocation.reserve 1 2 .inUse } }
  (((((s.setEntry 0 (.active remap)).setEntry 3 (.active substitute)).setEntry 63 (.tentative otherRepair)).setEntry 57
    (.lent 1)).setLine 3 (zeroLine.set 1 ones)).onControl 1 fun k => { k with state := .testing, outcome := .none }

/-- Channel 0's tracker has bank 0 open at row 256 and bank 1 at row 512. -/
def opened : State :=
  (run (.openRow 0 1 512) (run (.openRow 0 0 256) serving)).quiet

/-- Channel 0's read return list. -/
def withReturns (s : State) (items : List ReturnItem) : State := s.onPath 0 fun p => { p with returns := items }

/-! ## Chapter 3 -/

/-- Table 3.4, steps 1 and 2. -/
theorem test_open_row :
    (run (.openRow 0 1 512) serving).chan[0].pins.toDevice = [.openRow 1 1018]
      ∧ opened.chan[0].path.tracker = #v[some ⟨256, 256⟩, some ⟨512, 1018⟩, none, none, none, none, none, none] := by
  decide +kernel

/-- Table 3.5, step 10. -/
theorem test_open_row_intrusion :
    let t := run (.openRow 0 1 1018) opened
    t.chan[0].pins.toDevice = [.openRow 1 1018] ∧ t.chan[0].path.anomalies.intrusions = 1
      ∧ t.chan[0].path.tracker[1] = some ⟨1018, 1018⟩ := by decide +kernel

/-- Table 3.4, steps 3 and 4. -/
theorem test_read :
    (run (.read 0 1 9) (run (.read 0 0 5) opened)).chan[0].path.returns = [.captured ones, .device]
      ∧ (run (.read 0 0 5) opened).chan[0].pins.toDevice = [.read 0 5] := by decide +kernel

/-- Table 3.5, step 14, and Table 3.6, steps 3 and 8. -/
theorem test_read_unopened_and_held_off :
    (run (.read 0 2 3) opened).chan[0].path.anomalies.unopened = 1
      ∧ (run (.read 1 0 0) serving).chan[1].pins = ⟨[], [BitVec.allOnes 72]⟩ := by decide +kernel

/-- Table 3.4, step 5. -/
theorem test_write_substituted :
    let t := run (.write 0 0 5 0x222222222222222222#72 0b11) opened
    t.spare[3][1] = 0x111111111111112222#72 ∧ t.spare[3][0] = 0
      ∧ t.chan[0].pins.toDevice = [.write 0 5 0x222222222222222222#72 0b11] := by decide +kernel

/-- Table 3.5, step 11. -/
theorem test_write_masked :
    let t := run (.write 0 1 0 ones 0b111111111) (run (.openRow 0 1 1018) opened)
    t.chan[0].pins.toDevice = [.write 1 0 ones 0] ∧ t.chan[0].path.anomalies.maskedWrites = 1 := by decide +kernel

/-- R47: CLOSE BANK closes one bank and is forwarded. -/
theorem test_close_bank :
    let t := run (.closeBank 0 1) opened
    t.chan[0].path.tracker[0] = some ⟨256, 256⟩ ∧ t.chan[0].path.tracker[1] = none
      ∧ t.chan[0].pins.toDevice = [.closeBank 1] := by decide +kernel

/-- Table 3.5, step 13, and Table 3.6, step 4. -/
theorem test_close_all :
    (run (.closeAll 0) opened).chan[0].path.tracker = allClosed
      ∧ (run (.closeAll 1) opened).chan[1].path.anomalies.heldOff = 1
      ∧ (run (.closeAll 1) opened).chan[1].pins.toDevice = [] := by decide +kernel

/-- R47: REFRESH closes every bank of the tracker. -/
theorem test_refresh : (run (.refresh 0) opened).chan[0].path.tracker = allClosed
    ∧ (run (.refresh 0) opened).chan[0].pins.toDevice = [.refresh] := by decide +kernel

/-- R47, R56: MODE SET is forwarded and leaves the tracker. -/
theorem test_mode_set : (run (.modeSet 0 2 0xBEEF) opened).chan[0].path = opened.chan[0].path
    ∧ (run (.modeSet 0 2 0xBEEF) opened).chan[0].pins.toDevice = [.modeSet 2 0xBEEF] := by decide +kernel

/-- Table 3.6, step 7, and Table 3.4, step 6: the captured word answers, and the devices' word is discarded. -/
theorem test_device_return_to_path :
    let t := run (.deviceReadReturn 0 0x5A) (withReturns serving [.device, .poison])
    let u := run (.deviceReadReturn 0 0x5A) (withReturns serving [.captured ones, .device])
    t.chan[0].pins.toController = [0x5A#72, BitVec.allOnes 72] ∧ t.chan[0].path.returns = []
      ∧ u.chan[0].pins.toController = [ones] ∧ u.chan[0].path.returns = [.device] := by decide +kernel

/-! ## Images, start-up and resets -/

/-- The header of an image: its enable set, total length, warm policy, budget, and P, S and M. -/
def headerOf (enable : Byte) (length : Nat) (policy budget p s m : Byte) : List Byte :=
  [0x43#8, 0x4A#8, 1, enable, BitVec.ofNat 8 length, BitVec.ofNat 8 (length / 256), policy, budget, p, s, m]
    ++ List.replicate 5 0

/-- A channel section with the worked channel's geometry, but for b, and with a program start. -/
def sectionOf (b start : Byte) : List Byte :=
  [b, 10, 6, 8, 0, 0, 3, 0, 0, 0, 3, 78, 0, 48, 0, start, 0] ++ List.replicate 31 0

/-- The END record. -/
def endRecord : List Byte := 4 :: List.replicate 11 0

/-- The bytes after the header, with the check value of R160 at the end. -/
def sealed (header body : List Byte) : List Byte := body ++ numberBytes 4 (crc32 (header ++ body)).toNat

/-- The check value in CRC-32's own worked input, "123456789", which R160's parameters give. -/
theorem test_crc32 :
    crc32 [0x31#8, 0x32#8, 0x33#8, 0x34#8, 0x35#8, 0x36#8, 0x37#8, 0x38#8, 0x39#8] = 0xCBF43926#32 := by decide +kernel

/-- The length that the text after R160 works out: P = 12, S = 1 and M = 2 need L = 444. -/
theorem test_counts_agree :
    countsAgree (headerOf 15 444 1 2 12 1 2) = true ∧ countsAgree (headerOf 15 445 1 2 12 1 2) = false := by decide

/-- A GOOD image of 224 bytes: channels 0, 1 and 2 enabled, policy KEEP, budget 9, one record (END), channel 1 with b = 4 and
channel 2 starting at a given record. -/
def goodHeader : List Byte := headerOf 0b0111 224 1 9 1 0 0

def goodRest (start : Byte) : List Byte :=
  sealed goodHeader (sectionOf 2 0 ++ sectionOf 4 0 ++ sectionOf 2 start ++ sectionOf 2 0 ++ endRecord)

/-- The check value of a whole image, as a number. -/
def checkOf (image : List Byte) : BitVec 32 := BitVec.ofNat 32 (number32 image (image.length - 4))

/-- The header of an image stands in the loader; channel 0 is a candidate of the same image with an ACTIVE entry. -/
def loading (header rest : List Byte) : State :=
  let s := State.reset.onControl 0 fun k => { k with state := .failed, outcome := .repaired, runCount := 1, candidate := true }
  (s.setEntry 0 (.active remap)).setLoader
    { Loader.reset (some (checkOf (header ++ rest))) with image := header }

/-- Section 9.5's alternative ending: the candidate resumes with its entry ACTIVE, its outcome and its run count; the others
are untested (R163), tested (R148) and disabled. K is clamped (R111). -/
theorem test_image_check_places_channels :
    let t := run (.imageCheck (goodRest 0) [0, 1, 2, 3]) (loading goodHeader (goodRest 0))
    (t.chan[0].control = ⟨.service, .repaired, 1, 1, false⟩ ∧ t.table[0] = .active remap)
      ∧ (t.chan[1].control.outcome = .untested ∧ t.chan[1].setup.code = .geometry)
      ∧ t.chan[2].control.state = .analysing ∧ t.chan[3].control.state = .disabled ∧ t.arbiter.budget = 4 := by
  decide +kernel

/-- Table 10.6, record by record. -/
theorem test_carried_records :
    let s := idle.onSetup 1 fun u => { u with enabled := false }
    let t := ([⟨0, 0, 0, 256, 5, 0⟩, ⟨0, 0, 0, 256, 4, 0⟩, ⟨0, 1, 0, 256, 0, 0⟩, ⟨0, 1, 1, 300, 0, 0⟩, ⟨0, 1, 1, 301, 0, 0⟩,
      ⟨0, 0, 1, 300, 7, 0⟩, ⟨0, 0, 0, 256, 5, 1⟩, ⟨0, 0, 2, 1016, 0, 0⟩, ⟨1, 0, 0, 10, 0, 0⟩, ⟨0, 0, 0, 256, 6, 1⟩] :
        List CarriedRecord).foldl (State.loadCarried fun _ => false) s
    let carried (bank : Bank) (row : Row) (kind : RepairKind) : Entry :=
      .tentative { channel := 0, origin := .carried, bank := bank, row := row, kind := kind }
    t.table.toList.take 5 = [carried 0 256 (.substitute 5 .exact), carried 0 256 (.substitute 4 .exact),
        carried 1 300 (.remap 0), carried 0 256 (.substitute 4 .spanA), .free]
      ∧ t.chan[0].setup.dropped = 5 ∧ t.chan[1].setup.dropped = 1
      ∧ reserveAt t.chan[0].allocation.reserve 1 0 = some .inUse := by decide +kernel

/-- R158: a blank flash delivers FFh and ends as ABSENT; R148: every channel is then served untested. -/
theorem test_header_check_blank_flash :
    let t := run (.headerCheck (List.replicate 16 0xFF)) State.reset
    t.loader.status = .absent ∧ t.ready 3 = true ∧ t.attention = true := by decide +kernel

/-- A header that passes is kept, and the read goes on. -/
theorem test_header_check_good :
    (run (.headerCheck goodHeader) State.reset).loader.image = goodHeader := by decide +kernel

/-- Table 9.5, step 1. -/
theorem test_power_on_reset :
    let t := run .powerOnReset serving
    t.table = Vector.replicate 64 .free ∧ t.chan[0].control = ⟨.disabled, .none, 0, 0, false⟩
      ∧ t.spiOut = [0x03#8, 0x00#8, 0x00#8, 0x00#8] := by decide +kernel

/-- Section 9.5: a repaired channel in SERVICE is held over in FAILED, and a FAILED one goes to DISABLED with no entries. -/
theorem test_warm_restart :
    let t := run .warmRestart serving
    t.chan[0].control = ⟨.failed, .repaired, 1, 0, true⟩ ∧ t.table[0] = .active remap ∧ t.table[63] = .free
      ∧ t.chan[3].control.state = .disabled ∧ t.loader.previousCheck = some 7 := by decide +kernel

/-! ## Maintenance -/

/-- Table 11.2 and Table 11.3: GOOD; SERVICE and REPAIRED, TESTING and NONE, then FAILED and ABORTED twice. -/
theorem test_get_status :
    (run (.getStatus 0xFF) serving).reply =
      [0x00#8, 0x04#8, 5, 3, 2, 0, 6, 5, 6, 5, 0b11000, 0b0000] := by decide +kernel

/-- R171: the outcome, the settings code and the run count lead a record of 108 bytes. -/
theorem test_get_result :
    ((run (.getResult 0) serving).reply.take 7 = [0x00#8, 3, 0, 1, 0, 0, 0])
      ∧ (run (.getResult 0) serving).reply.length = 108 := by decide +kernel

/-- Table 11.2: an ACTIVE FOUND SUBSTITUTE with its spare words, and a LENT entry. -/
theorem test_get_entry :
    (run (.getEntry 3) serving).reply.take 31 =
        [0x00#8, 3, 0, 0, 1, 0, 0x00, 0x01, 4, 0, 1, 0xFF, 0xFF] ++ List.replicate 9 0 ++ List.replicate 9 0x11#8
      ∧ (run (.getEntry 57) serving).reply.take 13 =
        [0x00#8, 1, 0xFF, 0xFF, 0xFF, 0xFF, 0xFF, 0xFF, 0xFF, 0xFF, 0xFF, 0xFF, 1] := by decide +kernel

/-- R132, Table 11.2: a marked row with count 3. -/
theorem test_get_tally :
    (run (.getTally 2) (serving.onAllocation 2 fun a => { a with tally := [⟨0, 256, 3, true⟩] })).reply =
      [0x00#8, 1, 0, 0, 1, 0x83] := by decide +kernel

/-- Tables 11.2 and 11.3: bank 1 with its reserve row 2 IN_USE. -/
theorem test_get_reserve : (run (.getReserve 0x10) serving).reply = [0x00#8, 8, 1, 1, 3, 1, 1, 1, 1, 1] := by decide +kernel

/-- R172: the group's order; the anomaly counters are its last ten bytes. -/
theorem test_get_counters :
    let t := run (.getCounters 0) (run (.openRow 0 1 1018) opened)
    t.reply.length = 81 ∧ t.reply.drop 71 = [0x00#8, 0, 1, 0, 0, 0, 0, 0, 0, 0] := by decide +kernel

/-- Table 9.6, and Table 3.6, step 2: READY falls while READs are unanswered. -/
theorem test_retest :
    let t := run (.retest 0) (withReturns serving [.device])
    t.reply = [0x00#8] ∧ t.chan[0].control.state = .preparing ∧ t.ready 0 = false
      ∧ (run (.retest 1) serving).reply = [0x01#8] := by decide +kernel

/-- The abort of section 1.6's channel: the FOUND entry is freed and the CARRIED one stays; the arguments of Table 9.6. -/
theorem test_abort :
    let t := run (.abort 3) ((serving.onControl 3 fun k => { k with state := .testing }).setEntry 2
      (.tentative { otherRepair with origin := .carried, row := 7 }))
    t.chan[3].control.state = .failed ∧ t.chan[3].control.outcome = .aborted ∧ t.table[63] = .free
      ∧ t.table[2] = .tentative { otherRepair with origin := .carried, row := 7 }
      ∧ (run (.abort 0) serving).reply = [0x02#8] := by decide +kernel

/-- R173: an acknowledged anomaly holds ATTENTION no more. -/
theorem test_acknowledge :
    let s := run (.openRow 0 1 1018) opened
    s.anomalyCauses = 1 ∧ (run (.acknowledge 0) s).anomalyCauses = 0 ∧ (run (.acknowledge 0) s).reply = [0x00#8] := by
  decide +kernel

/-- R169. -/
theorem test_unknown_command : (run (.unknownCommand 0x13 0) serving).reply = [0x03#8]
    ∧ (run (.unknownCommand 0x13 0) State.reset).reply = [0x05#8] := by decide +kernel

/-- R168: a write of two bytes or more to 35h gives its command, and a shorter one, or one to another address, gives none. -/
theorem test_port_write :
    (serving.portWrite 0x35 [0x10, 0x00, 0xFF]).pending = [.retest 0]
      ∧ (serving.portWrite 0x35 [0x13, 0x00]).pending = [.unknownCommand 0x13 0]
      ∧ (serving.portWrite 0x35 [0x10]).pending = [] ∧ (serving.portWrite 0x35 []).pending = []
      ∧ (serving.portWrite 0x36 [0x10, 0x00]).pending = [] := by decide +kernel

/-- R168: a read starts from the first byte and goes on with FFh, of an empty buffer too. -/
theorem test_port_read :
    (serving.setReply [0x00#8, 0x04#8]).portRead 0x35 3 = some [0x00#8, 0x04#8, 0xFF#8]
      ∧ State.reset.portRead 0x35 1 = some [0xFF#8] ∧ serving.portRead 0x36 1 = none := by decide +kernel

/-! ## The engine -/

/-- A record of channel 1, at a column of bank 2, row 40. -/
def recordAt (column : Column) : FailRecord :=
  { channel := 1, phase := .raw, bank := 2, row := 40, column := column, element := 12, pass := 0, failing := 8,
    repeats := 1 }

/-- The sequence of Table 5.4: channel 1 in the sweep of element 1, at an operation of a position, with bank 0 open at row 0 and
some records in its queue; the allocator is busy with another channel. -/
def sweeping (position op records : Nat) : State :=
  let s := idle.onChan 1 fun c => { c with
    control := { c.control with state := .testing, outcome := .none }
    engine := { c.engine with
      state := .sweep, position := 1, currentOp := op, banks := allClosed.set 0 (some ⟨0, 0⟩)
      generator := { sweep := some (newSweep geo .raw .up 0), position := position } }
    timers := { c.timers with refreshMode := .running, clockRunning := true }
    queue := { c.queue with records := (List.range records).map fun n => recordAt (BitVec.ofNat 10 n) } }
  (s.setAllocator { item := .record { recordAt 0 with channel := 0, row := 3 } .covered, lastServed := 0 }).setArbiter
    { s.arbiter with holders := #v[false, true, false, false], lastGranted := 1 }

/-- The engine owes a refresh. -/
def owing (s : State) : State := s.onEngine 1 fun e => { e with refreshOwed := true }

/-- Table 5.4, step 1, and steps 7 and 8. -/
theorem test_engine_read :
    let t := run (.engineRead 1) (sweeping 63 0 15)
    (t.chan[1].pins.toDevice = [.read 0 63] ∧ t.chan[1].engine.counters.reads = 1)
      ∧ (run (.engineRead 1) (sweeping 64 0 16)).chan[1].pins.toDevice = [.openRow 1 0]
      ∧ (run (.engineRead 1) (sweeping 64 0 16)).chan[1].engine.state = .stall := by decide +kernel

/-- Table 5.4, steps 4 to 6. -/
theorem test_engine_write :
    let t := run (.engineWrite 1) (owing (sweeping 63 1 16))
    t.chan[1].pins.toDevice = [.closeAll, .refresh, .openRow 0 0, .write 0 63 (BitVec.allOnes 72) (BitVec.allOnes 9)]
      ∧ t.chan[1].engine.generator.position = 64 ∧ t.chan[1].engine.currentOp = 0 := by decide +kernel

/-- Table 5.4, step 3: lane 2 reads 01h, and the record is appended as the sixteenth. -/
theorem test_engine_return :
    let t := run (.deviceReadReturn 1 0x10000#72) (run (.engineRead 1) (sweeping 63 0 15))
    t.chan[1].queue.records.length = 16 ∧ (t.chan[1].queue.records.getLast?.map (·.failing)) = some 0x10000#72
      ∧ t.chan[1].engine.outstanding = none ∧ t.chan[1].engine.currentOp = 1 := by decide +kernel

/-- Table 7.5, steps 1 to 3: a second failure of the address merges, one of the next address is appended. -/
theorem test_queue_merges_youngest :
    let q := ((FailQueue.reset.place (recordAt 17)).place { recordAt 17 with failing := 24 }).place (recordAt 18)
    q.records = [{ recordAt 17 with failing := 24, repeats := 2 }, recordAt 18]
      ∧ q.counters.appended = 2 ∧ q.counters.merges = 1 := by decide +kernel

/-- Table 9.5, step 8: the run starts, is counted, and asks for its token; R14: the entry is reopened. -/
theorem test_prepare_run :
    let t := run (.prepareRun 0) (serving.onControl 0 fun k => { k with state := .preparing, outcome := .none })
    t.chan[0].control = ⟨.testing, .none, 2, 0, false⟩ ∧ t.table[0] = .tentative remap
      ∧ t.chan[0].pins.toDevice = [.closeAll, .modeSet 1 0x1234] ∧ t.chan[0].engine.state = .sweep := by decide +kernel

/-- Table 6.3, steps 1 to 3: the STOP hold of element 3 with one refresh owed. -/
theorem test_taking_a_stop_hold :
    let t := (owing (sweeping 63 0 0)).takeElementAt 1 3
    t.chan[1].pins.toDevice = [.closeAll, .refresh] ∧ t.chan[1].timers.refreshMode = .paused
      ∧ t.chan[1].timers.hold = some ⟨48, 0⟩ ∧ t.chan[1].timers.holdClamps = 1 := by decide +kernel

/-- The engine of channel 1 in that hold, with the refresh timer at 3.0 µs. -/
def holding : State := ((sweeping 63 0 0).onTimers 1 fun t => { t with refreshElapsed := 30 }).takeElementAt 1 3

/-- Table 6.3, steps 4 to 6. -/
theorem test_hold_expiry :
    let t := run (.holdTimerExpiry 1) holding
    t.chan[1].pins.toDevice = [.closeAll, .refresh] ∧ t.chan[1].timers.refreshMode = .running
      ∧ t.chan[1].timers.refreshElapsed = 30 ∧ t.chan[1].engine.position = 4 := by decide +kernel

/-- Table 5.4, step 2: with the operation not done, the refresh is owed; Table 6.3, step 7: in WAIT_TOKEN it is serviced. -/
theorem test_refresh_expiry :
    let waiting := (sweeping 63 0 0).onEngine 1 fun e => { e with state := .waitToken }
    (run (.refreshTimerExpiry 1) (sweeping 63 0 0)).chan[1].engine.refreshOwed = true
      ∧ (run (.refreshTimerExpiry 1) waiting).chan[1].pins.toDevice = [.closeAll, .refresh] := by decide +kernel

/-- R103, R110. -/
theorem test_run_clock :
    (run (.runClockMillisecond 1) (sweeping 63 0 0)).chan[1].timers.clock = 1
      ∧ (run (.runClockMillisecond 0) (sweeping 63 0 0)).chan[0].timers.clock = 0 := by decide +kernel

/-- A channel waits in WAIT_TOKEN at element 0. -/
def waitAt (s : State) (ch : Chan) : State := s.onEngine ch fun e => { e with state := .waitToken, position := 0 }

/-- Table 6.5, steps 1 to 5. -/
theorem test_token_grants :
    let s := ((((waitAt (waitAt (waitAt (waitAt idle 0) 1) 2) 3).requestToken 2).requestToken 0).requestToken 3).requestToken 1
    let t := s.releaseToken 2
    (s.arbiter.holders = #v[true, false, true, false] ∧ s.arbiter.waiting = #v[false, true, false, true]
      ∧ s.arbiter.lastGranted = 0)
      ∧ t.arbiter.holders = #v[true, true, false, false] ∧ t.arbiter.waiting = #v[false, false, false, true]
      ∧ t.arbiter.lastGranted = 1 ∧ t.chan[1].engine.state = .sweep := by decide +kernel

/-- With the queue empty, no command waits and a tenth of a microsecond passes (notes/assumptions/4.md). -/
theorem test_idle_step :
    (match step (sweeping 63 0 0) with
      | .next t => t.chan[1].timers.refreshElapsed
      | .fault _ => 0
      | .refused _ => 0) = 1 := by decide +kernel

/-! ## The allocator -/

/-- The allocator has a record of channel 1 in service, classified. -/
def serviceOf (f : FailRecord) (kind : RecordClass) (s : State) : State :=
  s.setAllocator { item := .record f kind, lastServed := f.channel }

/-- Table 8.1, step 5: after channel 2's service the order is 3, 0, 1, 2. -/
theorem test_choice_order :
    let record (ch : Chan) : FailRecord := { recordAt 5 with channel := ch }
    let s := (idle.onAllocation 0 fun a => { a with request := some true }).onQueue 3 fun q => { q with records := [record 3] }
    let s := s.onQueue 1 fun q => { q with records := [record 1] }
    let t := run .serviceCompletion (serviceOf (record 2) .verify s)
    t.allocator.item = .record (record 3) .newFail ∧ t.allocator.lastServed = 3
      ∧ t.chan[2].allocation.counters.verifyFails = 1 := by decide +kernel

/-- Table 8.5's first and fourth records: the third new fail of a row marks it at T = 3. -/
theorem test_new_fail :
    let f := recordAt 5
    let grown (count : BitVec 4) := run .serviceCompletion
      (serviceOf f .newFail (idle.onAllocation 1 fun a => { a with tally := [⟨2, 40, count, false⟩] }))
    (run .serviceCompletion (serviceOf f .newFail idle)).chan[1].allocation.tally = [⟨2, 40, 1, false⟩]
      ∧ (run .serviceCompletion (serviceOf f .newFail idle)).table[0] =
          .tentative { channel := 1, origin := .found, bank := 2, row := 40, kind := .substitute 5 .exact }
      ∧ (grown 2).chan[1].allocation.tally = [⟨2, 40, 3, true⟩] := by decide +kernel

/-- Table 8.6: promotion, then the marked row's remap to reserve index 0, its SUBSTITUTE absorbed. -/
theorem test_analysis :
    let s := idle.onChan 0 fun c => { c with
      control := { c.control with state := .analysing }
      engine := { c.engine with state := .drain, position := 8 }
      allocation := { c.allocation with
        reserve := List.replicate 4 (List.replicate 8 .untested), tally := [⟨0, 256, 3, true⟩] } }
    let t := run .analysisCompletion ((s.setEntry 0 (.tentative substitute)).setAllocator ⟨.analysis 0 true, 0⟩)
    t.table[0] = .tentative { channel := 0, origin := .found, bank := 0, row := 256, kind := .remap 0 }
      ∧ t.chan[0].allocation.reserve.head? = some (.inUse :: List.replicate 7 .good)
      ∧ t.chan[0].control.state = .verifying ∧ t.chan[0].engine.phase = .verify := by decide +kernel

/-! ## Witnesses: states and operands that meet the hypotheses of each statement, clause by clause -/

/-- Commands that wait, and none: with the refresh timer one short of its period and at it, and the hold timer the same. -/
theorem witness_StepRunsFrontCommand :
    (serving.setPending [.closeAll 0, .refresh 1]).pending = .closeAll 0 :: [.refresh 1]
      ∧ ∀ n ∈ [77, 78],
        let s := (sweeping 63 0 0).onTimers 1 fun t => { t with refreshElapsed := n, hold := some ⟨1, n + 9922⟩ }
        s.pending = [] ∧ s.chan[1].timers.refreshMode = .running
          ∧ s.chan[1].setup.settings = some settings ∧ settings.refreshInterval = 78
          ∧ s.chan[1].timers.hold = some ⟨1, n + 9922⟩ := by
  refine ⟨rfl, ?_⟩
  decide +kernel

theorem witness_WarmRestartHoldsOverCandidates :
    serving.chan[0].isCandidate = true ∧ serving.table[0].repair? = some remap ∧ remap.channel = 0
      ∧ serving.chan[3].isCandidate = false ∧ serving.table[63].repair? = some otherRepair ∧ otherRepair.channel = 3
      ∧ serving.table[57].repair? = none := by decide +kernel

/-- The least and the greatest length that pass, the two that just fail, and a failing identifier and version. -/
theorem witness_HeaderCheckKeepsOrEndsLoad :
    State.reset.loader.phase = .reading ∧ State.reset.loader.image = []
      ∧ (∀ length ∈ [63, 64, 4096, 4097],
          let h := headerOf 15 length 1 1 1 0 0
          h.length = 16 ∧ byteAt h 0 = 0x43 ∧ byteAt h 1 = 0x4A ∧ byteAt h 2 = 1 ∧ number16 h 4 = length)
      ∧ (let h := (headerOf 15 64 1 1 1 0 0).set 1 0x4B
        h.length = 16 ∧ ¬ (byteAt h 0 = 0x43 ∧ byteAt h 1 = 0x4A))
      ∧ (let h := (headerOf 15 64 1 1 1 0 0).set 2 2
        h.length = 16 ∧ byteAt h 0 = 0x43 ∧ byteAt h 1 = 0x4A ∧ byteAt h 2 ≠ 1) := by decide +kernel

/-- A damaged image of 64 bytes: the header's P, S and M, and the bytes after the header. -/
def damagedHeader (p s m : Byte) : List Byte := headerOf 15 64 1 1 p s m

/-- Each of the five faults, with a right check value for all but the first. -/
theorem witness_DamagedImageEndsLoad :
    (∀ x ∈ [(damagedHeader 0 0 0, List.replicate 48 0), (damagedHeader 65 0 0, sealed (damagedHeader 65 0 0) (List.replicate 44 0)),
        (damagedHeader 0 9 0, sealed (damagedHeader 0 9 0) (List.replicate 44 0)),
        (damagedHeader 0 0 65, sealed (damagedHeader 0 0 65) (List.replicate 44 0))],
      (loading x.1 x.2).loader.phase = .reading ∧ (loading x.1 x.2).loader.image.length = 16
        ∧ ((loading x.1 x.2).loader.image ++ x.2).length = number16 x.1 4)
      ∧ crc32 ((damagedHeader 0 0 0 ++ List.replicate 48 0).take 60) ≠ 0
      ∧ 64 < byteAt (damagedHeader 65 0 0) 8 ∧ 8 < byteAt (damagedHeader 0 9 0) 9
      ∧ 64 < byteAt (damagedHeader 0 0 65) 10 ∧ 64 ≠ 16 + 192 + 12 * byteAt (damagedHeader 0 0 0) 8 + 4 := by
  decide +kernel

/-- A GOOD image with a channel of each fate: 0 resumes, 1 fails the geometry check, 2 is tested, and 3 is disabled; with
another program start channel 2 fails the program start check, or validation. -/
theorem witness_GoodImageIsAppliedAndChannelsPlaced :
    (∀ start ∈ [0#8, 63#8, 64#8],
      let image := goodHeader ++ goodRest start
      let s := loading goodHeader (goodRest start)
      s.loader.phase = .reading ∧ s.loader.image = goodHeader ∧ goodHeader.length = 16 ∧ image.length = number16 image 4
        ∧ crc32 (image.take (number16 image 4 - 4)) = checkOf image ∧ s.loader.previousCheck = some (checkOf image)
        ∧ byteAt image 8 = 1 ∧ byteAt image 9 = 0 ∧ byteAt image 10 = 0 ∧ number16 image 4 = 16 + 192 + 12 + 4
        ∧ (∀ ch : Chan, s.chan[ch].path.returns = []) ∧ s.chan[0].control.candidate = true ∧ byteAt image 6 = 1)
      ∧ (let image := goodHeader ++ goodRest 0
        (byteAt image 3).testBit 3 = false ∧ (recordedGeometry image 1).inRange = false
          ∧ (recordedGeometry image 0).inRange = true ∧ recordedStart image 0 = 0 ∧ recordedStart image 2 = 0
          ∧ refusal (storeOf image) 0 = .none)
      ∧ recordedStart (goodHeader ++ goodRest 64) 2 = 64
      ∧ refusal (storeOf (goodHeader ++ goodRest 63)) 63 = .badKind := by decide +kernel

/-- The program and pattern clauses of the same statement: a record below P and one at it, and a pattern. -/
theorem witness_GoodImageIsAppliedAndChannelsPlaced_records :
    let image := goodHeader ++ goodRest 0
    let patterned := headerOf 0 284 0 1 0 1 0 ++ List.replicate 264 0
    (0 : Fin 64).val < byteAt image 8 ∧ ¬ (1 : Fin 64).val < byteAt image 8 ∧ byteAt image 208 = 4
      ∧ (patternsOf patterned)[0]? = some zeroLine
      ∧ (carriedOf (headerOf 0 228 0 1 0 0 1 ++ List.replicate 208 0))[0]? = some ⟨0, 0, 0, 0, 0, 0⟩
      ∧ (settingsOf (goodHeader ++ sectionOf 2 0) 0).maskA = 3 := by decide +kernel

/-- The carried clauses of the same statement: a record of a resuming channel, of one not enabled and of an untested one; fields
at the ends of their ranges; a row with a REMAP, with a SUBSTITUTE of the same compared bits and of others; a reserve row IN_USE; a
full table; and a lowest FREE entry. -/
theorem witness_GoodImageIsAppliedAndChannelsPlaced_carried :
    let s := serving.setEntry 0 (.tentative remap)
    let none_ := fun ch : Chan => decide (ch = 2)
    (none_ 2 = true ∧ none_ 0 = false)
      ∧ (idle.onSetup 0 fun u => { u with enabled := false }).chan[0].setup.enabled = false
      ∧ (idle.onSetup 0 fun u => { u with code := .noEnd }).chan[0].setup.code ≠ .none
      ∧ (s.chan[0].setup.enabled = true ∧ s.chan[0].setup.code = .none ∧ s.chan[0].setup.settings = some settings)
      ∧ (3 < 2 ^ geo.b ∧ ¬ 4 < 2 ^ geo.b ∧ 1015 < 2 ^ geo.r - geo.q ∧ ¬ 1016 < 2 ^ geo.r - geo.q ∧ 63 < 2 ^ geo.c
        ∧ 2 ^ geo.c ≤ 64 ∧ 7 < geo.q ∧ geo.q ≤ 8)
      ∧ ([Scope.exact, .spanA, .spanB][2]? = some .spanB ∧ [Scope.exact, .spanA, .spanB][1]? = some .spanA)
      ∧ (s.table[0].repair? = some remap ∧ remap.kind = .remap 2)
      ∧ (s.table[3].repair? = some substitute ∧ substitute.kind = .substitute 4 .spanA
        ∧ (∀ n : Fin 6, (3#10).getLsbD n = false → (4#10).getLsbD n = (6#10).getLsbD n)
        ∧ (4#10).getLsbD 3 ≠ (8#10).getLsbD 3)
      ∧ reserveAt s.chan[0].allocation.reserve 1 2 = some .inUse
      ∧ reserveAt s.chan[0].allocation.reserve 1 3 = some .good
      ∧ (∀ i : Fin 64, (s.mapTable fun _ _ => .active remap).table[i] ≠ .free)
      ∧ s.table[1] = .free ∧ ∀ j : Fin 64, j < 1 → s.table[j] ≠ .free := by decide +kernel

/-- The port's clauses of the same statement: an address that is not the port's, writes of no byte and of one, and a code outside
Table 11.1. -/
theorem witness_CommandsDuringStartUpAnswerStarting_port :
    (0x36#7 : BitVec 7) ≠ 0x35#7 ∧ ([] : List Byte).length < 2 ∧ [0x10#8].length < 2
      ∧ (Instr.unknownCommand 0x13 0).WellFormed = true := by decide

theorem witness_CommandsDuringStartUpAnswerStarting :
    State.reset.loader.phase ≠ .finished
      ∧ ∀ c ∈ [Instr.getStatus 0, .getResult 0, .getEntry 0, .getTally 0, .getReserve 0, .getCounters 0, .retest 0,
          .abort 0, .acknowledge 0, .unknownCommand 7 0], isMaintenance c = true := by decide +kernel

theorem witness_BadArgumentsAreRefused :
    serving.loader.phase = .finished ∧ (Instr.unknownCommand 0x07 0).WellFormed = true ∧ 3 < (4#8).toNat
      ∧ 63 < (64#8).toNat
      ∧ (0x40#8).toNat % 4 = 0 ∧ 2 ^ geo.b ≤ (0x40#8).toNat / 16 % 8 ∧ serving.chan[0].setup.settings = some settings := by
  decide +kernel

theorem witness_GetStatusReportsStatesAndCauses : serving.loader.phase = .finished := by decide +kernel

/-- With both captures absent, and with one present. -/
theorem witness_GetResultReportsResultRecord :
    serving.loader.phase = .finished ∧ (3#8).toNat = (3 : Chan).val ∧ serving.chan[3].result.firstRaw = none
      ∧ (serving.onChan 3 fun c => { c with result := { c.result with firstRaw := some ⟨1, 2, 3, 4, 5, 6, 7⟩ }
          }).chan[3].result.firstRaw = some ⟨1, 2, 3, 4, 5, 6, 7⟩ := by decide +kernel

/-- A FREE entry, a LENT one, and valid ones of both states and kinds. -/
theorem witness_GetEntryReportsEntryAndLine :
    serving.loader.phase = .finished ∧ (63#8).toNat = (63 : Fin 64).val ∧ serving.table[1] = .free
      ∧ serving.table[57] = .lent 1 ∧ serving.table[63] = .tentative otherRepair ∧ serving.table[0] = .active remap
      ∧ serving.table[3] = .active substitute ∧ substitute.isSubstitute = true ∧ remap.isSubstitute = false := by
  decide +kernel

/-- A channel with a tally entry, and the last reserve row of its last bank. -/
theorem witness_GetTallyAndReserveReportLists :
    let s := serving.onAllocation 3 fun a => { a with tally := [⟨3, 1015, 15, true⟩] }
    s.loader.phase = .finished ∧ (3#8).toNat = (3 : Chan).val
      ∧ s.chan[3].allocation.tally[0]? = some ⟨3, 1015, 15, true⟩
      ∧ (0x33#8).toNat % 4 = (3 : Chan).val ∧ (3#3).toNat = (0x33#8).toNat / 16 % 8 ∧ (3#3).toNat < 2 ^ geo.b
      ∧ s.chan[3].setup.settings = some settings ∧ s.chan[3].setup.code = .none ∧ 7 < settings.geometry.q
      ∧ reserveAt s.chan[3].allocation.reserve 3 7 = some .good := by decide +kernel

theorem witness_GetCountersCapturesGroup :
    serving.loader.phase = .finished ∧ (0#8).toNat = (0 : Chan).val := by decide +kernel

/-- SERVICE with REPAIRED or PASS, and FAILED, each with and without unanswered READs. -/
theorem witness_RetestEntersPreparing :
    serving.loader.phase = .finished ∧ (0#8).toNat = (0 : Chan).val ∧ (3#8).toNat = (3 : Chan).val
      ∧ serving.chan[0].control.state = .service ∧ serving.chan[0].control.outcome = .repaired
      ∧ (serving.onControl 0 fun k => { k with outcome := .pass }).chan[0].control.outcome = .pass
      ∧ serving.chan[3].control.state = .failed ∧ serving.chan[0].path.returns = []
      ∧ (withReturns serving [.device]).chan[0].path.returns ≠ [] := by decide +kernel

theorem witness_HostCommandsOutOfPlaceAreRefused :
    serving.loader.phase = .finished ∧ (1#8).toNat = (1 : Chan).val ∧ serving.chan[1].control.state.running = true
      ∧ (serving.onControl 1 fun k => { k with state := .disabled }).chan[1].control.state = .disabled
      ∧ (serving.onControl 1 fun k => { k with state := .service, outcome := .untested }).chan[1].control.state = .service
      ∧ serving.chan[3].control.state.running = false := by decide +kernel

/-- Channel 0 in TESTING, and in PREPARING, with a FOUND REMAP that holds reserve row 2 of bank 1 and a FOUND SUBSTITUTE. -/
theorem witness_AbortEndsRunAndReleasesFound :
    ∀ state ∈ [ChannelState.testing, .preparing],
      let found : Repair := { remap with origin := .found }
      let s := (serving.setEntry 0 (.tentative found)).onControl 0 fun k => { k with state := state, outcome := .none }
      s.loader.phase = .finished ∧ (0#8).toNat = (0 : Chan).val ∧ s.chan[0].control.state.running = true
        ∧ s.table[0] = .tentative found ∧ s.table[0].repair? = some found ∧ found.channel = 0
        ∧ (state = .testing → ¬ (s.chan[0].control.state = .preparing ∨ found.origin = .carried))
        ∧ found.kind = .remap 2 ∧ reserveAt s.chan[0].allocation.reserve found.bank 2 = some .inUse
        ∧ s.table[1] = .free ∧ s.table[57] = .lent 1 ∧ s.table[3] = .active substitute
        ∧ (∀ other : Chan, ∀ f ∈ s.chan[other].queue.records, f.channel = other) := by decide +kernel

/-- The premise on tokens of the same statement. -/
theorem witness_AbortEndsRunAndReleasesFound_budget :
    (serving.onControl 0 fun k => { k with state := .testing, outcome := .none }).BudgetLaw := by
  unfold State.BudgetLaw
  decide +kernel

theorem witness_AcknowledgeSetsBaselines : serving.loader.phase = .finished := by decide +kernel

/-- A REMAP's row, the last service row, and the first reserve row. -/
theorem witness_ServedOpenRowIsRedirected :
    let g := serving.chan[0].servedGeometry
    serving.chan[0].control.state = .service ∧ (decodeRow g 512).toNat < g.rows - g.q
      ∧ serving.rowLookup .service 0 (decodeBank g 1) (decodeRow g 512) = some 2
      ∧ (decodeRow g 1015).toNat < g.rows - g.q
      ∧ serving.rowLookup .service 0 (decodeBank g 1) (decodeRow g 1015) = none
      ∧ g.rows - g.q ≤ (decodeRow g 1016).toNat := by decide +kernel

/-- A full list; then, below 32, a closed bank, an intrusion row, a service row without and with a SUBSTITUTE. -/
theorem witness_ServedReadIsForwardedOrRefused :
    let full := withReturns serving (List.replicate 32 .device)
    let s := withReturns opened (List.replicate 31 .device)
    let g := s.chan[0].servedGeometry
    let intruded := run (.openRow 0 1 1016) s
    full.chan[0].control.state = .service ∧ 32 ≤ full.chan[0].path.returns.length
      ∧ s.chan[0].control.state = .service ∧ s.chan[0].path.returns.length < 32
      ∧ bankAt s.chan[0].path.tracker (decodeBank g 2) = none
      ∧ bankAt intruded.chan[0].path.tracker (decodeBank g 1) = some ⟨1016, 1016⟩ ∧ g.rows - g.q ≤ (1016#16).toNat
      ∧ bankAt s.chan[0].path.tracker (decodeBank g 0) = some ⟨256, 256⟩ ∧ (256#16).toNat < g.rows - g.q
      ∧ s.wordLookup .service 0 (decodeBank g 0) 256 (decodeColumn g 8) = none
      ∧ s.wordLookup .service 0 (decodeBank g 0) 256 (decodeColumn g 5) = some (3, 1) := by decide +kernel

/-- A closed bank, an intrusion row that is IN_USE and one that is not, a service row without and with a SUBSTITUTE. -/
theorem witness_ServedWriteIsForwardedMaskedOrMirrored :
    let g := opened.chan[0].servedGeometry
    let intruded (row : Row) := bankAt (run (.openRow 0 1 row) opened).chan[0].path.tracker (decodeBank g 1)
    opened.chan[0].control.state = .service ∧ bankAt opened.chan[0].path.tracker (decodeBank g 2) = none
      ∧ intruded 1018 = some ⟨1018, 1018⟩ ∧ intruded 1016 = some ⟨1016, 1016⟩ ∧ g.rows - g.q ≤ (1016#16).toNat
      ∧ reserveAt opened.chan[0].allocation.reserve 1 ((1018#16).toNat - (g.rows - g.q)) = some .inUse
      ∧ reserveAt opened.chan[0].allocation.reserve 1 ((1016#16).toNat - (g.rows - g.q)) ≠ some .inUse
      ∧ bankAt opened.chan[0].path.tracker (decodeBank g 0) = some ⟨256, 256⟩ ∧ (256#16).toNat < g.rows - g.q
      ∧ opened.wordLookup .service 0 (decodeBank g 0) 256 (decodeColumn g 8) = none
      ∧ opened.wordLookup .service 0 (decodeBank g 0) 256 (decodeColumn g 7) = some (3, 3) := by decide +kernel

theorem witness_ServedCloseRefreshModeSetAreForwarded : serving.chan[0].control.state = .service := by decide +kernel

theorem witness_HeldOffCommandsAreDropped : serving.chan[1].control.state ≠ .service := by decide +kernel

/-- An empty list, 31 items, and 32. -/
theorem witness_HeldOffReadIsPoisoned :
    let with_ (n : Nat) := (serving.onControl 0 fun k => { k with state := .preparing }).onPath 0 fun p =>
      { p with returns := List.replicate n .device }
    (∀ n ∈ [0, 31, 32], (with_ n).chan[0].control.state ≠ .service) ∧ (with_ 0).chan[0].path.returns = []
      ∧ (with_ 31).chan[0].path.returns ≠ [] ∧ (with_ 31).chan[0].path.returns.length < 32
      ∧ 32 ≤ (with_ 32).chan[0].path.returns.length := by decide +kernel

/-- An uncompared outstanding READ of channel 1. -/
def uncompared : OutstandingRead :=
  { address := ⟨3, 700, 12⟩, op := .readTrue, element := 9, pass := 0, position := 5, captured := none, uncompared := true }

/-- A list whose oldest item waits; and, with nothing waiting, no READ outstanding, and an uncompared one. -/
theorem witness_DeviceReturnIsRouted :
    (withReturns serving [.captured ones, .poison, .device]).chan[0].path.returns =
        .captured ones :: [.poison, .device]
      ∧ (∀ item ∈ serving.chan[0].path.returns, item = .poison) ∧ serving.chan[0].engine.outstanding = none
      ∧ (serving.onEngine 1 fun e => { e with outstanding := some uncompared }).chan[1].engine.outstanding =
        some uncompared ∧ uncompared.uncompared = true := by decide +kernel

/-- The premise on the allocator's choice of the same statement. -/
theorem witness_DeviceReturnIsRouted_choice :
    (serving.onEngine 1 fun e => { e with outstanding := some uncompared }).ChoiceLaw := by
  unfold State.ChoiceLaw
  decide +kernel

/-- A READ of (0, 0, 2) in flight, the youngest record being of another address, of the same one, or absent. -/
def inFlight (records : Nat) (youngest : List FailRecord) : State :=
  (run (.engineRead 1) (sweeping 2 0 records)).onQueue 1 fun q => { q with records := q.records ++ youngest }

/-- The READ that `inFlight` leaves outstanding. -/
def readInFlight : OutstandingRead :=
  { address := ⟨0, 0, 2⟩, op := .readTrue, element := 1, pass := 0, position := 2, captured := none, uncompared := false }

/-- Passing data, and failing data with each kind of queue. -/
theorem witness_EngineReturnIsCompared :
    let same : FailRecord := { recordAt 2 with bank := 0, row := 0 }
    (∀ s ∈ [inFlight 0 [], inFlight 15 [], inFlight 14 [same]],
      s.chan[1].engine.outstanding = some readInFlight ∧ (∀ item ∈ s.chan[1].path.returns, item = .poison)
        ∧ s.expectedWord 1 .readTrue ⟨0, 0, 2⟩ = 0)
      ∧ readInFlight.uncompared = false ∧ readInFlight.captured.getD 0 = 0 ∧ readInFlight.captured.getD 1 ≠ 0
      ∧ (inFlight 14 [same]).chan[1].queue.records = (inFlight 14 []).chan[1].queue.records ++ [same]
      ∧ same.phase = (inFlight 14 [same]).chan[1].engine.phase ∧ same.bank = 0 ∧ same.row = 0 ∧ same.column = 2
      ∧ (inFlight 15 []).chan[1].queue.records.getLast? = some (recordAt 14) ∧ (recordAt 14).bank ≠ 0
      ∧ (inFlight 0 []).chan[1].queue.records.getLast? = none := by decide +kernel

/-- Channel 1 in DRAIN or elsewhere, at an element of a phase. -/
def drainingAt (position : Nat) (phase : Phase) : State :=
  idle.onChan 1 fun c => { c with
    control := { c.control with state := .analysing, outcome := .none }
    engine := { c.engine with state := .drain, position := position, phase := phase } }

/-- A channel in PREPARING whose plan names pattern 1: with entry 57 FREE and no pattern table, with it FREE and a table of two
patterns, LENT, and valid; and with valid entries of its own and of another channel. -/
theorem witness_PrepareRunStartsTheRun :
    let s := serving.onControl 0 fun k => { k with state := .preparing, outcome := .none }
    s.chan[0].control.state = .preparing ∧ s.chan[0].path.returns = [] ∧ s.chan[0].names 0 = false
      ∧ s.chan[0].names 1 = true ∧ s.table[patternEntry 1] = .lent 1
      ∧ (s.setEntry 57 .free).table[patternEntry 1] = .free ∧ s.loader.patternTable[1]? = none
      ∧ (s.setLoader { s.loader with patternTable := [zeroLine, zeroLine] }).loader.patternTable[1]? = some zeroLine
      ∧ (s.setEntry 57 (.active substitute)).table[patternEntry 1] = .active substitute
      ∧ s.table[0].repair? = some remap ∧ remap.channel = 0 ∧ s.table[63].repair? = some otherRepair
      ∧ otherRepair.channel ≠ 0 ∧ s.table[1].repair? = none := by decide +kernel

/-- Element 9 in the VERIFY phase at the address (0, 0, 63), whose word 3 of entry 5 stands for it. -/
def verifying (position op : Nat) : State :=
  ((sweeping position op 0).setEntry 5 (.tentative
    { channel := 1, origin := .found, bank := 0, row := 0, kind := .substitute 60 .spanA })).onEngine 1 fun e =>
      { e with position := 9, phase := .verify,
               generator := { sweep := some (newSweep geo .verify .up 0), position := position } }

/-- A WRITE in the RAW phase, and in the VERIFY phase without and with a spare word. -/
theorem witness_EngineWriteIsIssued :
    (∀ s ∈ [sweeping 63 1 0, verifying 63 0, verifying 59 0],
      s.chan[1].engine.state = .sweep ∧ s.chan[1].engine.reading = false)
      ∧ (sweeping 63 1 0).currentOp 1 = some (1, .writeInverse) ∧ (sweeping 63 1 0).chan[1].engine.phase = .raw
      ∧ (sweeping 63 1 0).chan[1].address = some ⟨0, 0, 63⟩ ∧ Op.writeInverse.isRead = false
      ∧ (verifying 63 0).currentOp 1 = some (9, .writeTrue) ∧ (verifying 63 0).chan[1].engine.phase = .verify
      ∧ (verifying 63 0).chan[1].address = some ⟨0, 0, 63⟩ ∧ Op.writeTrue.isRead = false
      ∧ (verifying 63 0).wordLookup .proving 1 0 0 63 = some (5, 3)
      ∧ (verifying 59 0).chan[1].address = some ⟨0, 0, 59⟩ ∧ (verifying 59 0).wordLookup .proving 1 0 0 59 = none := by
  decide +kernel

/-- A READ with an uncompared READ outstanding, with 16 records queued, with 15, and in the VERIFY phase. -/
theorem witness_EngineReadIsIssuedOrStalls :
    let waiting := (sweeping 63 0 0).onEngine 1 fun e => { e with outstanding := some uncompared }
    (∀ s ∈ [waiting, sweeping 63 0 16, sweeping 63 0 15],
      s.chan[1].engine.state = .sweep ∧ s.chan[1].engine.reading = false
        ∧ s.currentOp 1 = some (1, .readTrue) ∧ s.chan[1].address = some ⟨0, 0, 63⟩)
      ∧ Op.readTrue.isRead = true ∧ waiting.chan[1].engine.outstanding ≠ none
      ∧ (sweeping 63 0 16).chan[1].engine.outstanding = none ∧ 16 ≤ (sweeping 63 0 16).chan[1].queue.records.length
      ∧ (sweeping 63 0 15).chan[1].engine.outstanding = none ∧ (sweeping 63 0 15).chan[1].queue.records.length ≤ 15
      ∧ (verifying 63 1).currentOp 1 = some (9, .readTrue) ∧ (verifying 63 1).chan[1].engine.state = .sweep := by
  decide +kernel

/-- An operation that is not the last, the last one before the last position, and the last one at it. -/
theorem witness_OperationDoneAdvancesTheSweep :
    (∀ s ∈ [sweeping 0 0 0, sweeping 262142 1 0, sweeping 262143 1 0],
      s.chan[1].currentChain = some ([] ++ [1]) ∧ s.chan[1].engine.generator.sweep = some (newSweep geo .raw .up 0)
        ∧ (chainOps s.store [1]).length = 2)
      ∧ (newSweep geo .raw .up 0).size = 262144
      ∧ (sweeping 0 0 0).chan[1].engine.currentOp + 1 < 2 ∧ 2 ≤ (sweeping 262142 1 0).chan[1].engine.currentOp + 1
      ∧ (sweeping 262142 1 0).chan[1].engine.generator.position + 1 < 262144
      ∧ 262144 ≤ (sweeping 262143 1 0).chan[1].engine.generator.position + 1 := by decide +kernel

theorem witness_TakingMarchBeginsItsChain :
    (elementAt idle.store 5 = march .up [.writeTrue] .random) ∧ idle.chan[1].setup.plan = some plan
      ∧ plan.chainAt 5 = some [5] := by decide +kernel

/-- A HOLD; a REPEAT whose span or count is 0, one with a pass left, and one without; the ANALYSE and the END. -/
theorem witness_TakingOtherElements :
    (elementAt idle.store 3 = .hold 64 .stop ∧ idle.chan[1].setup.settings = some settings)
      ∧ (elementAt (workedWith 7 (.repeated 0 3)) 7 = .repeated 0 3 ∧ elementAt (workedWith 7 (.repeated 0 3)) 8 = .analyse)
      ∧ (elementAt idle.store 7 = .repeated 2 3 ∧ elementAt idle.store (7 - 2) = march .up [.writeTrue] .random)
      ∧ ((idle.onEngine 1 fun e => { e with pass := 2 }).chan[1].engine.pass < 3
        ∧ 3 ≤ (idle.onEngine 1 fun e => { e with pass := 3 }).chan[1].engine.pass)
      ∧ elementAt idle.store 8 = .analyse ∧ elementAt idle.store 11 = .finish := by decide +kernel

/-- An arbiter with holders and waiting channels. -/
def arbiterOf (holders waiting : Vector Bool 4) (last : Chan) : Arbiter :=
  { budget := 2, holders := holders, waiting := waiting, lastGranted := last }

/-- One token held of two; both held; and a holder's release with the first, second or third channel after the last granted
waiting, or none. -/
theorem witness_TokensAreGrantedInCyclicOrder :
    let one := arbiterOf #v[true, false, false, false] (Vector.replicate 4 false) 0
    let two (waiting : Vector Bool 4) := arbiterOf #v[true, false, false, true] waiting 0
    elementAt (waitAt idle 1).store (waitAt idle 1).chan[1].engine.position = march .up [.writeTrue]
      ∧ one.held < one.budget ∧ (two (Vector.replicate 4 false)).budget ≤ (two (Vector.replicate 4 false)).held
      ∧ (two (Vector.replicate 4 false)).holders[0] = true
      ∧ ((two #v[false, true, true, false]).waiting[Fin.ofNat 4 (0 + 1 + 0)] = true)
      ∧ ((two #v[false, false, true, false]).waiting[Fin.ofNat 4 (0 + 1 + 1)] = true
        ∧ (two #v[false, false, true, false]).waiting[Fin.ofNat 4 (0 + 1 + 0)] = false)
      ∧ ((two #v[false, false, false, true]).waiting[Fin.ofNat 4 (0 + 1 + 2)] = true
        ∧ ∀ j : Fin 3, j < 2 → (two #v[false, false, false, true]).waiting[Fin.ofNat 4 (0 + 1 + j.val)] = false)
      ∧ ∀ other : Chan, (two (Vector.replicate 4 false)).waiting[other] = false := by decide +kernel

/-- A STOP hold and a KEEP hold. -/
theorem witness_HoldExpiryLeavesHold :
    let keep := holding.setStore (workedWith 3 (.hold 64 .keep))
    (holding.chan[1].engine.state = .hold ∧ holding.chan[1].timers.hold = some ⟨48, 0⟩
      ∧ elementAt holding.store holding.chan[1].engine.position = .hold 64 .stop)
      ∧ keep.chan[1].engine.state = .hold ∧ keep.chan[1].timers.hold = some ⟨48, 0⟩
      ∧ elementAt keep.store keep.chan[1].engine.position = .hold 64 .keep := by decide +kernel

/-- A stopped and a paused timer; SWEEP; and each state that services at once. -/
theorem witness_RefreshExpiryIsOwedOrServiced :
    let at_ (state : EngineState) (waits : Bool) := (sweeping 63 0 0).onEngine 1 fun e =>
      { e with state := state, awaitingReturn := waits }
    idle.chan[1].timers.refreshMode ≠ .running ∧ holding.chan[1].timers.refreshMode ≠ .running
      ∧ (∀ state ∈ [EngineState.waitToken, .stall, .hold, .drain],
          (at_ state false).chan[1].timers.refreshMode = .running ∧ (at_ state false).chan[1].engine.state = state)
      ∧ (∀ waits : Bool, (at_ .sweep waits).chan[1].timers.refreshMode = .running
          ∧ (at_ .sweep waits).chan[1].engine.state = .sweep
          ∧ (at_ .sweep waits).chan[1].engine.awaitingReturn = waits) := by decide +kernel

theorem witness_RunClockCountsMilliseconds :
    (sweeping 63 0 0).chan[1].timers.clockRunning = true ∧ (sweeping 63 0 0).chan[0].timers.clockRunning = false := by
  decide +kernel

/-- Records in one channel's queue. -/
def queued (ch : Chan) (records : List FailRecord) (s : State) : State := s.onQueue ch fun q => { q with records := records }

/-- A busy allocator and one without work; and, after channel 0, the work of the first, second, third and fourth channel in the
order: a VERIFY record, a reserve-row record, a covered record in three ways, a new fail, and an analysis request. -/
theorem witness_AllocatorChoosesInCyclicOrder :
    let f : FailRecord := recordAt 4
    let base := idle.setAllocator { item := .idle, lastServed := 0 }
    let none_ (s : State) (ch : Chan) := s.chan[ch].queue.records = [] ∧ s.chan[ch].allocation.request = none
    ((sweeping 0 0 0).allocator.item ≠ .idle ∧ base.allocator.item = .idle ∧ ∀ ch : Chan, none_ base ch)
      ∧ (queued 1 [f] base).chan[Fin.ofNat 4 (0 + 1 + 0)].queue.records = f :: []
      ∧ ((queued 2 [f] base).chan[Fin.ofNat 4 (0 + 1 + 1)].queue.records = f :: [] ∧ none_ (queued 2 [f] base) 1)
      ∧ ((queued 3 [f] base).chan[Fin.ofNat 4 (0 + 1 + 2)].queue.records = f :: [] ∧ none_ (queued 3 [f] base) 1
        ∧ none_ (queued 3 [f] base) 2)
      ∧ ((base.onAllocation 0 fun a => { a with request := some true }).chan[Fin.ofNat 4 (0 + 1 + 3)].allocation.request =
          some true
        ∧ ∀ ch : Chan, ch ≠ 0 → none_ (base.onAllocation 0 fun a => { a with request := some true }) ch)
      ∧ ({ f with phase := .verify } : FailRecord).phase = .verify ∧ f.phase = .raw
      ∧ base.chan[f.channel].geometry.rows - base.chan[f.channel].geometry.q ≤ (1016#16).toNat
      ∧ f.row.toNat < base.chan[f.channel].geometry.rows - base.chan[f.channel].geometry.q := by decide +kernel

/-- The three ways of being covered of the same statement, and a record that is not. -/
theorem witness_AllocatorChoosesInCyclicOrder_covered :
    let f : FailRecord := recordAt 4
    let own : Repair := { channel := 1, origin := .found, bank := 2, row := 40, kind := .substitute 4 .exact }
    (queued 1 [f] (idle.setEntry 9 (.tentative own))).wordLookup .proving 1 2 40 4 ≠ none
      ∧ (queued 1 [f] (idle.setEntry 9 (.tentative { own with kind := .remap 0 }))).rowLookup .proving 1 2 40 ≠ none
      ∧ (∃ t ∈ (queued 1 [f] (idle.onAllocation 1 fun a => { a with tally := [⟨2, 40, 3, true⟩] })).chan[1].allocation.tally,
          t.bank = 2 ∧ t.row = 40 ∧ t.mustRemap = true)
      ∧ (queued 1 [f] idle).wordLookup .proving 1 2 40 4 = none ∧ (queued 1 [f] idle).rowLookup .proving 1 2 40 = none
      ∧ (queued 1 [f] idle).chan[1].allocation.tally = [] := by decide +kernel

/-- The three ways of not draining, and the drain at the ANALYSE, at the END in RAW, and at the END in VERIFY. -/
theorem witness_DrainConditionEndsTheWait :
    ((sweeping 0 0 0).chan[1].engine.state ≠ .drain
      ∧ (queued 1 [recordAt 0] (drainingAt 8 .raw)).chan[1].queue.records ≠ []
      ∧ (serviceOf (recordAt 0) .covered (drainingAt 8 .raw)).allocator.item.serves 1 = true)
      ∧ (∀ s ∈ [drainingAt 8 .raw, drainingAt 11 .raw, drainingAt 11 .verify],
          s.chan[1].engine.state = .drain ∧ s.chan[1].queue.records = [] ∧ s.allocator.item.serves 1 = false
            ∧ s.chan[1].allocation.request = none ∧ s.allocator.item.analyses 1 = false
            ∧ s.chan[1].control.state = .analysing)
      ∧ elementAt (drainingAt 8 .raw).store (drainingAt 8 .raw).chan[1].engine.position = .analyse
      ∧ elementAt (drainingAt 11 .raw).store (drainingAt 11 .raw).chan[1].engine.position = .finish
      ∧ (drainingAt 11 .raw).chan[1].engine.phase = .raw ∧ (drainingAt 11 .verify).chan[1].engine.phase = .verify := by
  decide +kernel

/-- A run condemned by each of its four grounds; a clean run with and without a valid entry; every kind of entry. -/
theorem witness_DoneReportDecidesTheOutcome :
    let with_ (f : ChannelAllocation → ChannelAllocation) := ((drainingAt 11 .verify).onAllocation 1 f).chan[1].allocation
    let zero := AllocationCounters.zero
    let own : Repair := { channel := 1, origin := .found, bank := 2, row := 40, kind := .substitute 4 .exact }
    let entered := (drainingAt 11 .verify).setEntry 9 (.tentative own)
    (with_ fun a => { a with counters := { zero with verifyFails := 1 } }).counters.verifyFails ≠ 0
      ∧ (with_ fun a => { a with counters := { zero with unallocated := 1 } }).counters.unallocated ≠ 0
      ∧ (with_ fun a => { a with counters := { zero with shortfalls := 1 } }).counters.shortfalls ≠ 0
      ∧ (with_ fun a => { a with exhausted := true }).exhausted = true
      ∧ ((with_ id).counters = zero ∧ (with_ id).exhausted = false)
      ∧ (∃ i : Fin 64, entered.table[i].belongsTo 1 = true)
      ∧ (¬ ∃ i : Fin 64, (drainingAt 11 .verify).table[i].belongsTo 1 = true)
      ∧ entered.table[9] = .tentative own ∧ own.channel = 1 ∧ entered.table[8] = .free
      ∧ serving.table[57] = .lent 1 ∧ serving.table[0] = .active remap ∧ serving.table[63] = .tentative otherRepair
      ∧ otherRepair.channel ≠ 1 := by decide +kernel

theorem witness_VerifyRecordCountsOneVerifyFail :
    (serviceOf { recordAt 0 with phase := .verify, repeats := 255 } .verify idle).allocator.item =
      .record { recordAt 0 with phase := .verify, repeats := 255 } .verify := by decide +kernel

theorem witness_CoveredRecordCountsItsRepeats :
    (serviceOf { recordAt 0 with repeats := 255 } .covered idle).allocator.item =
      .record { recordAt 0 with repeats := 255 } .covered := by decide +kernel

/-- A tally entry of channel 1 for another row. -/
def tallied (row : Row) (mark : Bool) : TallyEntry := { bank := 2, row := row, count := 3, mustRemap := mark }

/-- A row in the tally; a row that joins seven; one that takes the place of the oldest unmarked row of eight; and an overflow.
Then a table with a FREE entry, and one without. -/
theorem witness_NewFailIsTalliedAndSubstituted :
    let f := recordAt 5
    let isRow (t : TallyEntry) := t.bank = f.bank ∧ t.row = f.row
    let marked (n : Nat) := (List.range n).map fun k => tallied (BitVec.ofNat 16 (100 + k)) true
    let s := serviceOf f .newFail idle
    s.allocator.item = .record f .newFail ∧ s.chan[f.channel].setup.settings = some settings
      ∧ (∃ t ∈ [tallied 40 false], isRow t)
      ∧ ((∀ t ∈ marked 7, ¬ isRow t) ∧ (marked 7).length < 8)
      ∧ (marked 3 ++ tallied 7 false :: marked 4).length = 8 ∧ (∀ t ∈ marked 3, t.mustRemap = true)
      ∧ (tallied 7 false).mustRemap = false ∧ (∀ t ∈ marked 3 ++ tallied 7 false :: marked 4, ¬ isRow t)
      ∧ ((∀ t ∈ marked 8, ¬ isRow t) ∧ 8 ≤ (marked 8).length ∧ ∀ t ∈ marked 8, t.mustRemap = true)
      ∧ (s.setEntry 0 (.active remap)).table[1] = .free
      ∧ (∀ j : Fin 64, j < 1 → (s.setEntry 0 (.active remap)).table[j] ≠ .free)
      ∧ ∀ i : Fin 64, (s.mapTable fun _ _ => .active remap).table[i] ≠ .free := by decide +kernel

/-- The first reserve row in each of its states. -/
theorem witness_ReserveRowRecordSpoilsTheRow :
    let f : FailRecord := { recordAt 5 with row := 1016 }
    let in_ (st : ReserveState) := (serviceOf f .reserveRow idle).onAllocation 1 fun a =>
      { a with reserve := setReserve a.reserve 2 0 st }
    ∀ st ∈ [ReserveState.untested, .good, .bad, .inUse],
      (in_ st).allocator.item = .record f .reserveRow
        ∧ reserveAt (in_ st).chan[1].allocation.reserve 2 (f.row.toNat - (geo.rows - geo.q)) = some st := by
  decide +kernel

/-- An analysis in service; a marked row of a bank without a GOOD reserve row, and of one whose first is its second, with the
lowest entry FREE. -/
theorem witness_AnalysisPromotesAndRemaps :
    let s := idle.onAllocation 0 fun a => { a with reserve := setReserve a.reserve 0 0 .bad }
    let none_ := idle.onAllocation 0 fun a => { a with reserve := List.replicate 4 (List.replicate 8 .inUse) }
    (idle.setAllocator ⟨.analysis 0 true, 0⟩).allocator.item = .analysis 0 true
      ∧ (∀ st ∈ none_.chan[0].allocation.reserve.getD 0 [], st ≠ .good)
      ∧ (s.chan[0].allocation.reserve.getD 0 [])[1]? = some .good
      ∧ (∀ j : Nat, j < 1 → (s.chan[0].allocation.reserve.getD 0 [])[j]? ≠ some .good)
      ∧ (s.mapTable fun _ e => e).table[0] = .free := by decide +kernel

/-- The report of the same statement: an engine not in DRAIN, one at the ANALYSE in ANALYSING, and one at the END. -/
theorem witness_AnalysisPromotesAndRemaps_report :
    (sweeping 0 0 0).chan[1].engine.state ≠ .drain
      ∧ (∀ s ∈ [drainingAt 8 .raw, drainingAt 11 .raw],
          s.chan[1].engine.state = .drain ∧ s.chan[1].control.state = .analysing)
      ∧ elementAt (drainingAt 8 .raw).store (drainingAt 8 .raw).chan[1].engine.position = .analyse
      ∧ elementAt (drainingAt 11 .raw).store (drainingAt 11 .raw).chan[1].engine.position = .finish := by
  decide +kernel

/-- R97 and R98: what the report leaves at the ANALYSE and at the END. -/
theorem test_analysis_report :
    let t := (drainingAt 8 .raw).analysisReport 1
    let u := (drainingAt 11 .raw).analysisReport 1
    (t.chan[1].control.state = .verifying ∧ t.chan[1].engine.phase = .verify ∧ t.chan[1].engine.position = 9)
      ∧ u.chan[1].control.state = .service ∧ u.chan[1].engine.state = .done ∧ u.chan[1].engine.phase = .raw
      ∧ u.chan[1].pins.toDevice = [.closeAll] := by decide +kernel

/-- The greatest and the least start, and the last address of each phase of a channel. -/
theorem witness_SweepVisitsEachIndexOnce :
    15871 < 15872 ∧ 0 < 15872 ∧ geo.inRange = true ∧ (3#3).toNat < 2 ^ geo.b ∧ (63#10).toNat < 2 ^ geo.c
      ∧ (1023#16).toNat < 2 ^ geo.r ∧ (1015#16).toNat < 2 ^ geo.r - geo.q := by decide

/-- The greatest geometry, with its last index and its last address, and the least. -/
theorem witness_IndexToAddressIsOneToOne :
    (⟨3, 16, 10, 0⟩ : Geometry).inRange = true ∧ (⟨0, 10, 4, 32⟩ : Geometry).inRange = true
      ∧ 2 ^ 29 - 1 < sweepSize ⟨3, 16, 10, 0⟩ .raw ∧ 15871 < sweepSize ⟨0, 10, 4, 32⟩ .verify
      ∧ (7#3).toNat < 2 ^ 3 ∧ (65535#16).toNat < 2 ^ 16 ∧ (1023#10).toNat < 2 ^ 10 ∧ (991#16).toNat < 2 ^ 10 - 32 := by
  decide +kernel

theorem witness_CoveredColumnsMapToOffsetsOneToOne :
    10 ≤ 10 ∧ (1023#10).toNat < 2 ^ 10 ∧ (ignoredPositions (clampMask 10 0x3FF)).length = 3
      ∧ (7 : Fin 8).val < 2 ^ (ignoredPositions (clampMask 10 0x3FF)).length
      ∧ (ignoredPositions (clampMask 10 0x234))[2]? = some 5 := by decide +kernel

theorem witness_RandomWordIsStepped : (1#16 : BitVec 16) ≠ 0 ∧ lfsrStep 1#16 = 0xB400#16 := by decide

/-- The engine of channel 1 at a MARCH element of each background; a STORED one with its line lent, and unavailable; a RANDOM one
with its pass seed. -/
theorem witness_RandomWordIsStepped_words :
    let at_ (background : BackgroundKind) :=
      (idle.onEngine 1 fun e => { e with position := 4, passSeed := some 0x0E96#16 }).setStore
        (workedWith 4 (march .up [.readTrue] background))
    let with_ (use : PatternUse) := ((at_ .stored).setPattern 1 0 use).chan[1].patterns[0]
    (∀ background ∈ [BackgroundKind.solid, .checker, .rowStripe, .columnStripe, .laneWalk, .stored, .random],
        elementAt (at_ background).store (at_ background).chan[1].engine.position = march .up [.readTrue] background)
      ∧ (∀ n : Fin 72, (0xFF0000000000#72).getLsbD n = decide (n.val / 8 = (5#10).toNat % 9))
      ∧ with_ .lent = .lent ∧ with_ .unavailable = .unavailable ∧ (56 : Fin 64).val = 56 + (0 : Fin 8).val
      ∧ (7 : Fin 8).val = (63#10).toNat % 8 ∧ (at_ .random).chan[1].setup.settings = some settings
      ∧ (at_ .random).chan[1].engine.passSeed = some 0x0E96#16 := by decide +kernel

/-- A word lookup and a row lookup with a result, and ones without; a table with a FREE entry, and one without. -/
theorem witness_LookupAndCreationTakeLowestIndex :
    serving.wordLookup .service 0 0 256 5 = some (3, 1) ∧ serving.wordLookup .service 0 0 256 8 = none
      ∧ serving.rowLookup .service 0 1 512 = some 2 ∧ serving.rowLookup .service 3 3 1015 = none
      ∧ substitute.kind = .substitute 4 .spanA ∧ remap.kind = .remap 2
      ∧ serving.chan[0].setup.settings = some settings ∧ serving.table[1] = .free
      ∧ (∀ j : Fin 64, j < 1 → serving.table[j] ≠ .free)
      ∧ ∀ i : Fin 64, (serving.mapTable fun _ _ => .active remap).table[i] ≠ .free := by decide +kernel

/-- An image with a MARCH record of background SOLID and an END has a chain. -/
theorem witness_ChainsPartitionThePath :
    let image := headerOf 1 236 0 1 2 0 0 ++ List.replicate 192 0 ++ [0x00#8, 0, 0, 3, 0, 0, 0, 0, 0, 0, 0, 0] ++ endRecord
    (buildPlan (storeOf image) 0 1).chains = [[0]] := by decide +kernel

/-- The clauses on validation and joins of the same statement: an accepted program and one refused at its first record; a store of
MARCH elements alone, with no END; elements that join, and ones that do not; and an element with and without a slot of NONE. -/
theorem witness_ChainsPartitionThePath_clauses :
    let full : March := { direction := .up, joined := false, rotation := 0, slots := List.replicate 4 (some .readTrue),
                          background := .solid, seed := 1, pattern := 0 }
    let joined := storeFrom [march .up [.writeTrue] .solid true, march .up [.readTrue] .solid true,
      march .up [.readTrue] .checker, .finish]
    validate (storeFrom workedRecords) 11 = .ok 11 ∧ validate (storeFrom workedRecords) 12 = .error .badKind
      ∧ validate (storeFrom (List.replicate 64 (.march full))) 63 = .error .noEnd
      ∧ (buildPlan joined 0 3).chains = [[0, 1], [2]] ∧ (buildPlan joined 0 3).joinsIgnored = 1
      ∧ full.ops.length = 4 ∧ elementAt joined 3 = .finish
      ∧ elementAt joined 2 = march .up [.readTrue] .checker := by decide +kernel

/-! ### The laws -/

theorem witness_StepKeepsReturnListLaw :
    let s := (withReturns serving (.device :: List.replicate 31 .poison)).setPending [.deviceReadReturn 0 0]
    s.ReturnListLaw ∧ step s = .next (run (.deviceReadReturn 0 0) (s.setPending [])) := by
  refine ⟨?_, rfl⟩
  unfold State.ReturnListLaw
  decide +kernel

theorem witness_StepKeepsFailQueueLaw :
    let s := (run (.engineRead 1) (sweeping 63 0 15)).setPending [.deviceReadReturn 1 1]
    s.FailQueueLaw ∧ s.chan[1].engine.reading = true ∧ step s = .next (run (.deviceReadReturn 1 1) (s.setPending [])) := by
  refine ⟨?_, ?_, rfl⟩
  · unfold State.FailQueueLaw
    decide +kernel
  · decide +kernel

theorem witness_StepKeepsTallyLaw :
    let s := ((serviceOf (recordAt 5) .newFail idle).onAllocation 1 fun a =>
      { a with tally := [tallied 41 true, tallied 40 false] }).setPending [.serviceCompletion]
    s.TallyLaw ∧ step s = .next (run .serviceCompletion (s.setPending [])) := by
  refine ⟨?_, rfl⟩
  unfold State.TallyLaw
  decide +kernel

/-- Entry 57 is lent, and channel 1, whose plan names pattern 1, is in TESTING. -/
theorem witness_StepKeepsPatternLineLaw :
    let s := serving.setPending [.abort 1]
    s.PatternLineLaw ∧ s.table[57] = .lent 1 ∧ step s = .next (run (.abort 1) (s.setPending [])) := by
  refine ⟨?_, ?_, rfl⟩
  · unfold State.PatternLineLaw State.WaitsForLoader
    decide +kernel
  · decide +kernel

theorem witness_StepKeepsChoiceLaw :
    let s := serving.setPending [.refresh 0]
    s.ChoiceLaw ∧ step s = .next (run (.refresh 0) (s.setPending [])) := by
  refine ⟨?_, rfl⟩
  unfold State.ChoiceLaw
  decide +kernel

/-- Channel 0's entry 0 holds reserve row 2 of bank 1, which alone is IN_USE. -/
def reserving : State := serving.setPending [.warmRestart]

theorem reserving_entries : ∀ i : Fin 64, i = 0 ∧ reserving.table[i] = .active remap
    ∨ i ≠ 0 ∧ (reserving.table[i] = .free ∨ reserving.table[i] = .active substitute
      ∨ reserving.table[i] = .tentative otherRepair ∨ reserving.table[i] = .lent 1) := by decide +kernel

theorem reserving_holds (ch : Chan) (bank : Bank) (n : Nat) (i : Fin 64) :
    reserving.table[i].holdsReserve ch bank n = true ↔ i = 0 ∧ ch = 0 ∧ bank = 1 ∧ n = 2 := by
  rcases reserving_entries i with ⟨hi, h⟩ | ⟨hi, h | h | h | h⟩ <;> rw [h]
  · simp only [Entry.holdsReserve, Entry.repair?, Repair.holdsReserve, remap, Bool.and_eq_true, beq_iff_eq,
      RepairKind.remap.injEq]
    exact ⟨fun h => ⟨hi, h.1.1.symm, h.1.2.symm, h.2.symm⟩, fun h => ⟨⟨h.2.1.symm, h.2.2.1.symm⟩, h.2.2.2.symm⟩⟩
  all_goals simp [Entry.holdsReserve, Entry.repair?, Repair.holdsReserve, substitute, otherRepair, hi]

theorem reserving_lists :
    (∀ (ch : Chan) (bank n : Fin 8),
      reserveAt reserving.chan[ch].allocation.reserve (BitVec.ofFin bank) n.val = some .inUse ↔
        ch = 0 ∧ BitVec.ofFin bank = (1 : Bank) ∧ n.val = 2)
      ∧ ∀ ch : Chan, ∀ l ∈ reserving.chan[ch].allocation.reserve, l.length = 8 := by decide +kernel

theorem reserving_inUse (ch : Chan) (bank : Bank) (n : Nat) :
    reserveAt reserving.chan[ch].allocation.reserve bank n = some .inUse ↔ ch = 0 ∧ bank = 1 ∧ n = 2 := by
  by_cases hn : n < 8
  · exact reserving_lists.1 ch bank.toFin ⟨n, hn⟩
  · have hnone : reserveAt reserving.chan[ch].allocation.reserve bank n = none := by
      unfold reserveAt
      cases h : reserving.chan[ch].allocation.reserve[bank.toNat]? with
      | none => rfl
      | some l =>
        have := reserving_lists.2 ch l (List.mem_of_getElem? h)
        exact List.getElem?_eq_none (by omega)
    rw [hnone]
    simp only [reduceCtorEq, false_iff]
    omega

theorem witness_StepKeepsReserveRowLaw :
    reserving.ReserveRowLaw ∧ step reserving = .next (run .warmRestart (reserving.setPending [])) := by
  refine ⟨fun ch bank n => ⟨?_, fun i j hi hj => ?_⟩, rfl⟩
  · simp only [reserving_inUse, reserving_holds, exists_eq_left]
  · exact ((reserving_holds ch bank n i).1 hi).1.trans ((reserving_holds ch bank n j).1 hj).1.symm

/-- Channel 1 in SWEEP with the one token held, a READ outstanding and a TENTATIVE entry; channel 0 in SERVICE with ACTIVE
ones. -/
def midRun : State :=
  let s := run (.engineRead 1) (((sweeping 63 0 15).setAllocator
    { item := .record (recordAt 0) .covered, lastServed := 1 }).setEntry 5 (.tentative { otherRepair with channel := 1 }))
  (((s.setEntry 0 (.active remap)).onControl 0 fun k => { k with state := .service, outcome := .repaired }).onAllocation 0
    fun a => { a with reserve := setReserve a.reserve 1 2 .inUse }).setPending [.deviceReadReturn 1 1]

theorem witness_StepKeepsRunLaw :
    midRun.RunLaw ∧ step midRun = .next (run (.deviceReadReturn 1 1) (midRun.setPending [])) := by
  refine ⟨⟨?_, ?_, ?_, ?_⟩, rfl⟩
  · unfold State.WaitsForLoader
    decide +kernel
  · unfold State.ChannelRunLaw
    decide +kernel
  · unfold State.BudgetLaw
    decide +kernel
  · have ht : ∀ i : Fin 64, midRun.table[i] = .free ∨ midRun.table[i] = .active remap
        ∨ midRun.table[i] = .tentative { otherRepair with channel := 1 } := by decide +kernel
    intro i
    rcases ht i with h | h | h <;> rw [h]
    · trivial
    · decide +kernel
    · decide +kernel

/-! ### The machine as a whole -/

theorem witness_OnlyResetOrRetestEndsService :
    serving.loader.phase = .finished ∧ serving.ready 0 = true ∧ endsService 0 (.abort 0) = false
      ∧ endsService 0 (.retest 1) = false ∧ exec (.abort 0) serving = .next (run (.abort 0) serving) := by
  refine ⟨?_, ?_, ?_, ?_, rfl⟩ <;> decide +kernel

/-- Channel 0 serves with two entries while channel 3's entry is released. -/
theorem witness_EntriesAreFixedInService :
    let s := serving.onControl 3 fun k => { k with state := .testing }
    s.loader.phase = .finished ∧ s.ready 0 = true ∧ s.allocator.item.serves 0 = false ∧ s.allocator.item.analyses 0 = false
      ∧ s.chan[0].engine.state.active = false ∧ s.chan[0].engine.reading = false ∧ endsService 0 (.abort 3) = false
      ∧ s.table[0].belongsTo 0 = true ∧ exec (.abort 3) s = .next (run (.abort 3) s)
      ∧ (run (.abort 3) s).table[63] = .free := by
  refine ⟨?_, ?_, ?_, ?_, ?_, ?_, ?_, ?_, rfl, ?_⟩ <;> decide +kernel

end Sys2Proof.Tests
end

/-! PROOFS. The arithmetic of sweeps (R25 to R28): position to index, index to address, and both together. Each map is
one-to-one because it has an inverse, named here: `sweepPosition` of an index, and `addressIndex` of an address. -/

namespace Sys2Proof.Machine

/-! ## From position to index (R27) -/

/-- Going UP, the index wraps to 0 after N−1. -/
theorem sweepIndex_up_of_lt {size start k : Nat} (hs : start < size) (hk : k < size) :
    sweepIndex size start .up k = if start + k < size then start + k else start + k - size := by
  rw [sweepIndex]
  split
  next h => exact Nat.mod_eq_of_lt h
  next h => rw [Nat.mod_eq_sub_mod (by omega), Nat.mod_eq_of_lt (by omega)]

/-- The remainder for DOWN is the non-negative one, so nothing is lost in making it a natural number. -/
theorem sweepIndex_down_cast {size : Nat} (start k : Nat) (hsize : 0 < size) :
    (sweepIndex size start .down k : Int) = ((start : Int) - k) % size :=
  Int.toNat_of_nonneg (Int.emod_nonneg _ (by omega))

/-- Going DOWN, the index wraps to N−1 after 0. -/
theorem sweepIndex_down_of_lt {size start k : Nat} (hs : start < size) (hk : k < size) :
    sweepIndex size start .down k = if k ≤ start then start - k else start + size - k := by
  have hcast := sweepIndex_down_cast start k (by omega : 0 < size)
  split
  next h =>
    rw [Int.emod_eq_of_lt (by omega) (by omega)] at hcast
    omega
  next h =>
    rw [← Int.add_emod_right, Int.emod_eq_of_lt (by omega) (by omega)] at hcast
    omega

theorem sweepIndex_zero {size start : Nat} (hs : start < size) (d : Direction) : sweepIndex size start d 0 = start := by
  cases d with
  | up => rw [sweepIndex_up_of_lt hs (by omega), if_pos (by omega), Nat.add_zero]
  | down => rw [sweepIndex_down_of_lt hs (by omega), if_pos (by omega), Nat.sub_zero]

theorem sweepIndex_lt {size : Nat} (start : Nat) (d : Direction) (k : Nat) (hsize : 0 < size) :
    sweepIndex size start d k < size := by
  cases d with
  | up => exact Nat.mod_lt _ hsize
  | down =>
    have hcast := sweepIndex_down_cast start k hsize
    have hlt := Int.emod_lt_of_pos ((start : Int) - k) (by omega : (0 : Int) < size)
    omega

/-- The position at which a sweep visits index `i`: how far `i` lies beyond the start in the sweep's direction, which is
itself a DOWN index. -/
def sweepPosition (size start : Nat) (d : Direction) (i : Nat) : Nat :=
  match d with
  | .up => sweepIndex size i .down start
  | .down => sweepIndex size start .down i

theorem sweepPosition_lt {size : Nat} (start : Nat) (d : Direction) (i : Nat) (hsize : 0 < size) :
    sweepPosition size start d i < size := by
  cases d with
  | up => exact sweepIndex_lt i .down start hsize
  | down => exact sweepIndex_lt start .down i hsize

theorem sweepIndex_eq_iff {size start k i : Nat} (d : Direction) (hs : start < size) (hk : k < size) (hi : i < size) :
    sweepIndex size start d k = i ↔ k = sweepPosition size start d i := by
  cases d with
  | up =>
    rw [sweepPosition, sweepIndex_up_of_lt hs hk, sweepIndex_down_of_lt hi hs]
    split <;> split <;> omega
  | down =>
    rw [sweepPosition, sweepIndex_down_of_lt hs hk, sweepIndex_down_of_lt hs hi]
    split <;> split <;> omega

theorem existsUnique_sweepIndex_eq {size start i : Nat} (d : Direction) (hs : start < size) (hi : i < size) :
    ∃! k : Nat, k < size ∧ sweepIndex size start d k = i := by
  have hlt := sweepPosition_lt start d i (by omega : 0 < size)
  exact ⟨sweepPosition size start d i, ⟨hlt, (sweepIndex_eq_iff d hs hlt hi).2 rfl⟩,
    fun k ⟨hk, h⟩ => (sweepIndex_eq_iff d hs hk hi).1 h⟩

/-- Every rotation of a setting, a byte, starts the sweep at one of its indices (R26). -/
theorem startIndex_lt {rotation size : Nat} (hrot : rotation ≤ 255) (hsize : 0 < size) :
    startIndex rotation size < size := by
  rw [startIndex]
  apply Nat.div_lt_of_lt_mul
  exact Nat.mul_lt_mul_of_pos_right (by omega) hsize

/-! ## Numbers of three mixed digits

Both orders of Table 2.1 read an index as three digits: column, bank and row, or row, column and bank, the fastest first. -/

theorem eq_mixedDigits_iff {i lo mid hi L M : Nat} (hlo : lo < L) (hmid : mid < M) :
    i = (hi * M + mid) * L + lo ↔ i % L = lo ∧ i / L % M = mid ∧ i / (L * M) = hi := by
  rw [← Nat.div_div_eq_div_mul]
  constructor
  · rintro rfl
    have hdiv : ((hi * M + mid) * L + lo) / L = hi * M + mid := by
      rw [Nat.mul_comm, Nat.mul_add_div (by omega), Nat.div_eq_of_lt hlo, Nat.add_zero]
    rw [hdiv]
    refine ⟨Nat.mul_add_mod_of_lt hlo, Nat.mul_add_mod_of_lt hmid, ?_⟩
    rw [Nat.mul_comm, Nat.mul_add_div (by omega), Nat.div_eq_of_lt hmid, Nat.add_zero]
  · rintro ⟨rfl, rfl, rfl⟩
    rw [Nat.div_add_mod', Nat.div_add_mod']

theorem mixedDigits_lt {lo mid hi L M H : Nat} (hlo : lo < L) (hmid : mid < M) (hhi : hi < H) :
    (hi * M + mid) * L + lo < H * M * L := by
  have hpair : hi * M + mid < H * M := by
    calc hi * M + mid < (hi + 1) * M := by rw [Nat.succ_mul]; omega
      _ ≤ H * M := Nat.mul_le_mul_right M hhi
  calc (hi * M + mid) * L + lo < (hi * M + mid + 1) * L := by rw [Nat.succ_mul]; omega
    _ ≤ H * M * L := Nat.mul_le_mul_right L hpair

/-! ## From index to address (R25, R28) -/

theorem Geometry.inRange_iff (g : Geometry) :
    g.inRange = true ↔ g.b ≤ 3 ∧ 10 ≤ g.r ∧ g.r ≤ 16 ∧ 4 ≤ g.c ∧ g.c ≤ 10 ∧ g.q ≤ 32 := by
  simp only [Geometry.inRange, Bool.and_eq_true, decide_eq_true_eq, and_assoc]

theorem Geometry.banks_pos (g : Geometry) : 0 < g.banks := Nat.two_pow_pos g.b

theorem Geometry.columns_pos (g : Geometry) : 0 < g.columns := Nat.two_pow_pos g.c

section InRange

variable {g : Geometry} (hg : g.inRange = true)
include hg

theorem Geometry.banks_le : g.banks ≤ 2 ^ 3 := by
  obtain ⟨hb, -⟩ := g.inRange_iff.1 hg
  exact Nat.pow_le_pow_right (by decide) hb

theorem Geometry.columns_le : g.columns ≤ 2 ^ 10 := by
  obtain ⟨-, -, -, -, hc, -⟩ := g.inRange_iff.1 hg
  exact Nat.pow_le_pow_right (by decide) hc

theorem phaseRows_le (p : Phase) : phaseRows g p ≤ 2 ^ 16 := by
  obtain ⟨-, -, hr, -⟩ := g.inRange_iff.1 hg
  have hrows : g.rows ≤ 2 ^ 16 := Nat.pow_le_pow_right (by decide) hr
  cases p with
  | raw => exact hrows
  | verify => exact (Nat.sub_le g.rows g.q).trans hrows

/-- A bank has at least 1,024 rows and at most 32 of them are reserve rows, so a VERIFY sweep is never empty. -/
theorem phaseRows_pos (p : Phase) : 0 < phaseRows g p := by
  obtain ⟨-, hr, -, -, -, hq⟩ := g.inRange_iff.1 hg
  have hrows : 2 ^ 10 ≤ g.rows := Nat.pow_le_pow_right (by decide) hr
  cases p with
  | raw => rw [phaseRows]; omega
  | verify => rw [phaseRows, Geometry.serviceRows]; omega

theorem sweepSize_pos (p : Phase) : 0 < sweepSize g p :=
  Nat.mul_pos (Nat.mul_pos g.banks_pos (phaseRows_pos hg p)) g.columns_pos

end InRange

/-- A number below its bound fits a field that holds the bound's numbers. -/
theorem toNat_ofNat_of_lt_of_le {n m w : Nat} (hn : n < m) (hm : m ≤ 2 ^ w) : (BitVec.ofNat w n).toNat = n := by
  rw [BitVec.toNat_ofNat, Nat.mod_eq_of_lt (hn.trans_le hm)]

/-- The addresses of a phase: bank, row and column are each below their number. -/
structure Address.InPhase (g : Geometry) (p : Phase) (a : Address) : Prop where
  bank_lt : a.bank.toNat < g.banks
  row_lt : a.row.toNat < phaseRows g p
  column_lt : a.column.toNat < g.columns

theorem Address.eq_iff_toNat (x a : Address) :
    x = a ↔ x.bank.toNat = a.bank.toNat ∧ x.row.toNat = a.row.toNat ∧ x.column.toNat = a.column.toNat := by
  cases x
  cases a
  simp only [Address.mk.injEq, BitVec.toNat_inj]

/-- The numbers that Table 2.1 gives for the bank, row and column of index `i`. -/
def IsAddressOf (g : Geometry) (order : SweepOrder) (rows i : Nat) (a : Address) : Prop :=
  match order with
  | .columnFast => a.column.toNat = i % g.columns ∧ a.bank.toNat = i / g.columns % g.banks
      ∧ a.row.toNat = i / (g.columns * g.banks)
  | .rowFast => a.column.toNat = i / rows % g.columns ∧ a.bank.toNat = i / (rows * g.columns) ∧ a.row.toNat = i % rows

theorem IsAddressOf.unique {g : Geometry} {order : SweepOrder} {rows i : Nat} {x a : Address}
    (hx : IsAddressOf g order rows i x) (ha : IsAddressOf g order rows i a) : x = a := by
  rw [Address.eq_iff_toNat]
  cases order with
  | columnFast =>
    rw [IsAddressOf] at hx ha
    omega
  | rowFast =>
    rw [IsAddressOf] at hx ha
    omega

/-- The index of an address: its three digits put together in the order of the sweep. -/
def addressIndex (g : Geometry) (order : SweepOrder) (rows : Nat) (a : Address) : Nat :=
  match order with
  | .columnFast => (a.row.toNat * g.banks + a.bank.toNat) * g.columns + a.column.toNat
  | .rowFast => (a.bank.toNat * g.columns + a.column.toNat) * rows + a.row.toNat

/-- Table 2.1's numbers are those of the address whose index is `i`: the digits of a number are its own. -/
theorem isAddressOf_iff_eq_addressIndex {g : Geometry} {p : Phase} {a : Address} (order : SweepOrder) (i : Nat)
    (ha : a.InPhase g p) :
    IsAddressOf g order (phaseRows g p) i a ↔ i = addressIndex g order (phaseRows g p) a := by
  cases order with
  | columnFast =>
    rw [IsAddressOf, addressIndex, eq_mixedDigits_iff ha.column_lt ha.bank_lt]
    simp only [eq_comm]
  | rowFast =>
    rw [IsAddressOf, addressIndex, eq_mixedDigits_iff ha.row_lt ha.column_lt, ← and_rotate]
    simp only [eq_comm]

theorem addressIndex_lt {g : Geometry} {p : Phase} {a : Address} (order : SweepOrder) (ha : a.InPhase g p) :
    addressIndex g order (phaseRows g p) a < sweepSize g p := by
  cases order with
  | columnFast =>
    rw [sweepSize, Nat.mul_comm g.banks]
    exact mixedDigits_lt ha.column_lt ha.bank_lt ha.row_lt
  | rowFast =>
    rw [sweepSize, Nat.mul_right_comm]
    exact mixedDigits_lt ha.row_lt ha.column_lt ha.bank_lt

section InRange

variable {g : Geometry} (hg : g.inRange = true) {p : Phase} (order : SweepOrder) {i : Nat}
include hg

/-- Every number of Table 2.1 fits the field that carries it, in the numbers of the phase. -/
theorem indexAddress_spec (hi : i < sweepSize g p) :
    IsAddressOf g order (phaseRows g p) i (indexAddress g order (phaseRows g p) i)
      ∧ (indexAddress g order (phaseRows g p) i).InPhase g p := by
  have hbanks := Geometry.banks_le hg
  have hcolumns := Geometry.columns_le hg
  have hrows := phaseRows_le hg p
  cases order with
  | columnFast =>
    have hcolumn : i % g.columns < g.columns := Nat.mod_lt _ g.columns_pos
    have hbank : i / g.columns % g.banks < g.banks := Nat.mod_lt _ g.banks_pos
    have hrow : i / (g.columns * g.banks) < phaseRows g p :=
      Nat.div_lt_of_lt_mul (by rwa [Nat.mul_comm g.columns, Nat.mul_right_comm])
    have ecolumn := toNat_ofNat_of_lt_of_le hcolumn hcolumns
    have ebank := toNat_ofNat_of_lt_of_le hbank hbanks
    have erow := toNat_ofNat_of_lt_of_le hrow hrows
    exact ⟨⟨ecolumn, ebank, erow⟩, ⟨ebank.trans_lt hbank, erow.trans_lt hrow, ecolumn.trans_lt hcolumn⟩⟩
  | rowFast =>
    have hrow : i % phaseRows g p < phaseRows g p := Nat.mod_lt _ (phaseRows_pos hg p)
    have hcolumn : i / phaseRows g p % g.columns < g.columns := Nat.mod_lt _ g.columns_pos
    have hbank : i / (phaseRows g p * g.columns) < g.banks :=
      Nat.div_lt_of_lt_mul (by rwa [Nat.mul_comm, ← Nat.mul_assoc])
    have ecolumn := toNat_ofNat_of_lt_of_le hcolumn hcolumns
    have ebank := toNat_ofNat_of_lt_of_le hbank hbanks
    have erow := toNat_ofNat_of_lt_of_le hrow hrows
    exact ⟨⟨ecolumn, ebank, erow⟩, ⟨ebank.trans_lt hbank, erow.trans_lt hrow, ecolumn.trans_lt hcolumn⟩⟩

theorem indexAddress_eq_iff {a : Address} (ha : a.InPhase g p) (hi : i < sweepSize g p) :
    indexAddress g order (phaseRows g p) i = a ↔ i = addressIndex g order (phaseRows g p) a := by
  obtain ⟨hspec, -⟩ := indexAddress_spec hg order hi
  rw [← isAddressOf_iff_eq_addressIndex order i ha]
  exact ⟨fun h => h ▸ hspec, hspec.unique⟩

theorem existsUnique_indexAddress_eq {a : Address} (ha : a.InPhase g p) :
    ∃! i : Nat, i < sweepSize g p ∧ indexAddress g order (phaseRows g p) i = a := by
  have hlt := addressIndex_lt order ha
  exact ⟨addressIndex g order (phaseRows g p) a, ⟨hlt, (indexAddress_eq_iff hg order ha hlt).2 rfl⟩,
    fun i ⟨hi, h⟩ => (indexAddress_eq_iff hg order ha hi).1 h⟩

/-- The two maps together: the one index of an address is visited at one position. -/
theorem existsUnique_sweepAddress_eq {a : Address} (ha : a.InPhase g p) (d : Direction) {rotation : Nat}
    (hrot : rotation ≤ 255) :
    ∃! k : Nat, k < sweepSize g p ∧ sweepAddress g order (newSweep g p d rotation) k = a := by
  have hpos := sweepSize_pos hg p
  obtain ⟨i, ⟨hi, hia⟩, honlyIndex⟩ := existsUnique_indexAddress_eq hg order ha
  obtain ⟨k, ⟨hk, hki⟩, honlyPosition⟩ := existsUnique_sweepIndex_eq d (startIndex_lt hrot hpos) hi
  refine ⟨k, ⟨hk, (congrArg (indexAddress g order (phaseRows g p)) hki).trans hia⟩, fun k' ⟨hk', hk'a⟩ => ?_⟩
  exact honlyPosition k' ⟨hk', honlyIndex _ ⟨sweepIndex_lt _ d k' hpos, hk'a⟩⟩

end InRange

/-! ## The obligations -/

/-- Settles O45: `sweepPosition` inverts `sweepIndex`, and with the inverse of the index to address mapping it gives the one
position of each address. -/
theorem sweepVisitsEachIndexOnce : Obligations.SweepVisitsEachIndexOnce := by
  unfold Obligations.SweepVisitsEachIndexOnce
  constructor
  · intro size start hs
    exact ⟨fun _ => rfl, fun k => sweepIndex_down_cast start k (by omega), sweepIndex_zero hs,
      fun d _ hi => existsUnique_sweepIndex_eq d hs hi⟩
  · intro g order p d rotation hg hrot a hbank hcolumn hrow
    have ha : a.InPhase g p := by
      cases p <;> exact ⟨hbank, hrow, hcolumn⟩
    exact existsUnique_sweepAddress_eq hg order ha d hrot

/-- Settles O46: the digits of an index are the numbers of Table 2.1, and `addressIndex` puts them together again. -/
theorem indexToAddressIsOneToOne : Obligations.IndexToAddressIsOneToOne := by
  unfold Obligations.IndexToAddressIsOneToOne
  intro g order p hg rows banks columns
  have hrows : rows = phaseRows g p := by cases p <;> rfl
  rw [hrows]
  refine ⟨rfl, fun i hi => ?_, fun a hbank hrow hcolumn => existsUnique_indexAddress_eq hg order ⟨hbank, hrow, hcolumn⟩⟩
  obtain ⟨hspec, hbank, hrow, hcolumn⟩ := indexAddress_spec hg order hi
  refine ⟨?_, hbank, hrow, hcolumn⟩
  cases order <;> exact hspec

end Sys2Proof.Machine

/-! PROOFS. Completed services that touch the channel's counters alone (R128, R129, R131): what SERVICE_COMPLETION does with
the record in service, and the effect of the two classes that create, release and mark nothing. -/

namespace Sys2Proof.Machine

/-! ## The completion of a service (R128) -/

/-- The step's quiet buses leave the item in service, so the completion serves that record. -/
theorem exec_serviceCompletion_record {f : FailRecord} {kind : RecordClass} {s : State}
    (h : s.allocator.item = .record f kind) :
    exec .serviceCompletion s =
      .next (((s.quiet.serveRecord f kind).idleAllocator.drainTest f.channel).choose) := by
  have hquiet : s.quiet.allocator.item = .record f kind := by rw [State.quiet_allocator, h]
  rw [exec, execServiceCompletion, State.completeService, hquiet]

/-- An allocator that becomes idle keeps its last-served channel, which no update of a channel's allocation changes. -/
theorem State.idleAllocator_onAllocation (s : State) (ch : Chan) (g : ChannelAllocation → ChannelAllocation) :
    (s.onAllocation ch g).idleAllocator = (s.onAllocation ch g).setAllocator { s.allocator with item := .idle } := by
  rw [State.idleAllocator, State.onAllocation_allocator]

/-- A class whose effects are one update of the channel's allocation: that update, then the allocator idle, the report to
the engine and the next choice. -/
theorem exec_serviceCompletion_of_onAllocation {f : FailRecord} {kind : RecordClass} {s : State}
    {g : ChannelAllocation → ChannelAllocation} (h : s.allocator.item = .record f kind)
    (hserve : s.quiet.serveRecord f kind = s.quiet.onAllocation f.channel g) :
    exec .serviceCompletion s = .next ((((s.quiet.onAllocation f.channel g).setAllocator
      { s.allocator with item := .idle }).drainTest f.channel).choose) := by
  rw [exec_serviceCompletion_record h, hserve, State.idleAllocator_onAllocation, State.quiet_allocator]

/-! ## The classes that only count (R129, R131) -/

theorem State.serveRecord_verify (s : State) (f : FailRecord) :
    s.serveRecord f .verify = s.onAllocation f.channel fun a =>
      { a with counters := { a.counters with verifyFails := Counter.inc a.counters.verifyFails } } := rfl

theorem State.serveRecord_covered (s : State) (f : FailRecord) :
    s.serveRecord f .covered = s.onAllocation f.channel fun a =>
      { a with counters := { a.counters with
          rawRecords := Counter.inc a.counters.rawRecords
          repeatsDiscarded := Counter.add a.counters.repeatsDiscarded f.repeats.toNat } } := rfl

/-! ## The obligations -/

/-- Settles O40: the service of a VERIFY record is one update of the channel's counters. -/
theorem verifyRecordCountsOneVerifyFail : Obligations.VerifyRecordCountsOneVerifyFail := by
  unfold Obligations.VerifyRecordCountsOneVerifyFail
  intro f s h
  exact exec_serviceCompletion_of_onAllocation h (State.serveRecord_verify s.quiet f)

/-- Settles O41: the service of a covered record is one update of the channel's counters. -/
theorem coveredRecordCountsItsRepeats : Obligations.CoveredRecordCountsItsRepeats := by
  unfold Obligations.CoveredRecordCountsItsRepeats
  intro f s h
  exact exec_serviceCompletion_of_onAllocation h (State.serveRecord_covered s.quiet f)

end Sys2Proof.Machine

/-! PROOFS. What most steps leave alone: `SameWork`, the parts of the state that the laws speak of, and `EngineFrame`, what an
engine that goes on with its program changes and what it leaves (Chapters 5, 6 and 9). -/

namespace Sys2Proof.Machine

/-! ## The parts that the laws speak of -/

/-- The part of a channel that the laws speak of. -/
structure ChannelWork where
  control : Control
  setup : ChannelSetup
  returns : List ReturnItem
  state : EngineState
  position : Nat
  outstanding : Option OutstandingRead
  records : List FailRecord
  allocation : ChannelAllocation

def Channel.work (c : Channel) : ChannelWork :=
  { control := c.control, setup := c.setup, returns := c.path.returns, state := c.engine.state,
    position := c.engine.position, outstanding := c.engine.outstanding, records := c.queue.records,
    allocation := c.allocation }

/-- Two states that differ in nothing that a law speaks of. -/
structure State.SameWork (s t : State) : Prop where
  chan : ∀ c : Chan, t.chan[c.val].work = s.chan[c.val].work
  table : t.table = s.table
  store : t.store = s.store
  arbiter : t.arbiter = s.arbiter
  allocator : t.allocator = s.allocator
  phase : t.loader.phase = s.loader.phase

namespace State.SameWork

variable {s t u : State}

theorem refl (s : State) : s.SameWork s := ⟨fun _ => rfl, rfl, rfl, rfl, rfl, rfl⟩

theorem symm (h : s.SameWork t) : t.SameWork s :=
  ⟨fun c => (h.chan c).symm, h.table.symm, h.store.symm, h.arbiter.symm, h.allocator.symm, h.phase.symm⟩

theorem trans (h : s.SameWork t) (h' : t.SameWork u) : s.SameWork u :=
  ⟨fun c => (h'.chan c).trans (h.chan c), h'.table.trans h.table, h'.store.trans h.store, h'.arbiter.trans h.arbiter,
    h'.allocator.trans h.allocator, h'.phase.trans h.phase⟩

theorem control (h : s.SameWork t) (c : Chan) : t.chan[c.val].control = s.chan[c.val].control :=
  congrArg ChannelWork.control (h.chan c)

theorem setup (h : s.SameWork t) (c : Chan) : t.chan[c.val].setup = s.chan[c.val].setup :=
  congrArg ChannelWork.setup (h.chan c)

theorem returns (h : s.SameWork t) (c : Chan) : t.chan[c.val].path.returns = s.chan[c.val].path.returns :=
  congrArg ChannelWork.returns (h.chan c)

theorem state (h : s.SameWork t) (c : Chan) : t.chan[c.val].engine.state = s.chan[c.val].engine.state :=
  congrArg ChannelWork.state (h.chan c)

theorem position (h : s.SameWork t) (c : Chan) : t.chan[c.val].engine.position = s.chan[c.val].engine.position :=
  congrArg ChannelWork.position (h.chan c)

theorem outstanding (h : s.SameWork t) (c : Chan) :
    t.chan[c.val].engine.outstanding = s.chan[c.val].engine.outstanding :=
  congrArg ChannelWork.outstanding (h.chan c)

theorem records (h : s.SameWork t) (c : Chan) : t.chan[c.val].queue.records = s.chan[c.val].queue.records :=
  congrArg ChannelWork.records (h.chan c)

theorem allocation (h : s.SameWork t) (c : Chan) : t.chan[c.val].allocation = s.chan[c.val].allocation :=
  congrArg ChannelWork.allocation (h.chan c)

theorem reading (h : s.SameWork t) (c : Chan) : t.chan[c.val].engine.reading = s.chan[c.val].engine.reading := by
  simp only [Engine.reading, h.outstanding c]

theorem hasWork (h : s.SameWork t) (c : Chan) : t.chan[c.val].hasWork = s.chan[c.val].hasWork := by
  simp only [Channel.hasWork, h.records c, h.allocation c]

theorem names (h : s.SameWork t) (c : Chan) (p : Fin 8) : t.chan[c.val].names p = s.chan[c.val].names p := by
  simp only [Channel.names, h.setup c]

/-- An update of one channel that leaves what the laws speak of. -/
theorem onChan (s : State) (ch : Chan) (f : Channel → Channel) (h : (f s.chan[ch.val]).work = s.chan[ch.val].work) :
    s.SameWork (s.onChan ch f) := by
  refine ⟨fun c => ?_, rfl, rfl, rfl, rfl, rfl⟩
  rw [State.onChan_chan]
  split
  · rename_i e
    rw [h, e]
  · rfl

theorem mapChan (s : State) (f : Chan → Channel → Channel)
    (h : ∀ c : Chan, (f c s.chan[c.val]).work = s.chan[c.val].work) : s.SameWork (s.mapChan f) :=
  ⟨fun c => by rw [State.mapChan_chan, h c], rfl, rfl, rfl, rfl, rfl⟩

theorem quiet (s : State) : s.SameWork s.quiet := ⟨fun c => by rw [State.quiet_chan]; rfl, rfl, rfl, rfl, rfl, rfl⟩

theorem setReply (s : State) (r : List Byte) : s.SameWork (s.setReply r) := ⟨fun _ => rfl, rfl, rfl, rfl, rfl, rfl⟩

theorem setPending (s : State) (q : List Instr) : s.SameWork (s.setPending q) :=
  ⟨fun _ => rfl, rfl, rfl, rfl, rfl, rfl⟩

theorem setLine (s : State) (i : Fin 64) (l : Line) : s.SameWork (s.setLine i l) :=
  ⟨fun _ => rfl, rfl, rfl, rfl, rfl, rfl⟩

end State.SameWork

/-! ## The laws depend on those parts alone -/

theorem State.ReturnListLaw.congr {s t : State} (h : s.SameWork t) (hs : s.ReturnListLaw) : t.ReturnListLaw := by
  intro ch
  simp only [Fin.getElem_fin, h.returns ch]
  exact hs ch

theorem State.FailQueueLaw.congr {s t : State} (h : s.SameWork t) (hs : s.FailQueueLaw) : t.FailQueueLaw := by
  intro ch
  simp only [Fin.getElem_fin, h.records ch, h.reading ch]
  exact hs ch

theorem State.TallyLaw.congr {s t : State} (h : s.SameWork t) (hs : s.TallyLaw) : t.TallyLaw := by
  intro ch
  simp only [Fin.getElem_fin, h.allocation ch]
  exact hs ch

theorem State.WaitsForLoader.congr {s t : State} (h : s.SameWork t) (hs : s.WaitsForLoader) : t.WaitsForLoader := by
  intro hp ch
  simp only [Fin.getElem_fin, h.control ch]
  exact hs (h.phase ▸ hp) ch

theorem State.PatternLineLaw.congr {s t : State} (h : s.SameWork t) (hs : s.PatternLineLaw) : t.PatternLineLaw := by
  refine ⟨hs.1.congr h, fun i p hi => ?_⟩
  rw [h.table] at hi
  obtain ⟨hp, ch, hr, hn⟩ := hs.2 i p hi
  simp only [Fin.getElem_fin] at hr hn
  exact ⟨hp, ch, by simpa only [Fin.getElem_fin, h.control ch] using hr, by simpa only [Fin.getElem_fin, h.names ch] using hn⟩

theorem State.ReserveRowLaw.congr {s t : State} (h : s.SameWork t) (hs : s.ReserveRowLaw) : t.ReserveRowLaw := by
  intro ch bank reserve
  simp only [Fin.getElem_fin, h.allocation ch, h.table]
  exact hs ch bank reserve

theorem State.ChoiceLaw.congr {s t : State} (h : s.SameWork t) (hs : s.ChoiceLaw) : t.ChoiceLaw := by
  intro hi ch
  rw [h.allocator] at hi
  simp only [Fin.getElem_fin, h.hasWork ch]
  exact hs hi ch

theorem State.ChannelRunLaw.congr {s t : State} (h : s.SameWork t) {ch : Chan} (hs : s.ChannelRunLaw ch) :
    t.ChannelRunLaw ch := by
  simp only [State.ChannelRunLaw, Fin.getElem_fin, h.state, h.control, h.reading, h.records, h.allocation, h.allocator,
    h.phase]
  exact hs

theorem State.BudgetLaw.congr {s t : State} (h : s.SameWork t) (hs : s.BudgetLaw) : t.BudgetLaw := by
  simp only [State.BudgetLaw, Fin.getElem_fin, h.arbiter, h.state, h.position, h.store]
  exact hs

theorem State.EntryStateLaw.congr {s t : State} (h : s.SameWork t) (hs : s.EntryStateLaw) : t.EntryStateLaw := by
  simp only [State.EntryStateLaw, Fin.getElem_fin, h.table, h.control]
  exact hs

theorem State.RunLaw.congr {s t : State} (h : s.SameWork t) (hs : s.RunLaw) : t.RunLaw :=
  ⟨hs.1.congr h, fun ch => (hs.2.1 ch).congr h, hs.2.2.1.congr h, hs.2.2.2.congr h⟩

end Sys2Proof.Machine

namespace Sys2Proof.Machine

/-! ## What an engine that goes on leaves alone -/

/-- The part of a channel that an engine leaves as it goes on with its program. -/
structure ChannelKept where
  setup : ChannelSetup
  returns : List ReturnItem
  anomalies : Anomalies
  outstanding : Option OutstandingRead
  queue : FailQueue
  tally : List TallyEntry
  reserve : List (List ReserveState)
  exhausted : Bool
  counters : AllocationCounters
  patterns : Vector PatternUse 8
  baselines : Anomalies
  runCount : Counter 16
  resumedCount : Counter 16
  candidate : Bool

def Channel.kept (c : Channel) : ChannelKept :=
  { setup := c.setup, returns := c.path.returns, anomalies := c.path.anomalies, outstanding := c.engine.outstanding,
    queue := c.queue, tally := c.allocation.tally, reserve := c.allocation.reserve, exhausted := c.allocation.exhausted,
    counters := c.allocation.counters, patterns := c.patterns, baselines := c.baselines,
    runCount := c.control.runCount, resumedCount := c.control.resumedCount, candidate := c.control.candidate }

/-- Some channel whose program names the pattern is in a testing state (R21). -/
def State.Borrows (s : State) (p : Fin 8) : Prop :=
  ∃ ch : Chan, s.chan[ch.val].control.state.running = true ∧ s.chan[ch.val].names p = true

/-- What an engine can change as it goes on: its own run, tokens, the request it places, and, when its run ends, its channel's
state, outcome and results, the commit of its entries and the return of its lines. -/
structure State.EngineFrame (s t : State) : Prop where
  kept : ∀ c : Chan, t.chan[c.val].kept = s.chan[c.val].kept
  control : ∀ c : Chan, t.chan[c.val].control = s.chan[c.val].control
    ∨ s.chan[c.val].control.state.started = true ∧ (t.chan[c.val].control.state.started = true
        ∨ t.chan[c.val].control.state = .failed ∨ t.chan[c.val].control.state = .service)
  entry : ∀ i : Fin 64, t.table[i.val] = s.table[i.val]
    ∨ (∃ p, s.table[i.val] = .lent p ∧ t.table[i.val] = .free)
    ∨ ∃ r, s.table[i.val] = .tentative r ∧ t.table[i.val] = .active r
        ∧ s.chan[r.channel.val].control.state.started = true
  tentative : ∀ (i : Fin 64) (r : Repair), t.table[i.val] = .tentative r →
    t.chan[r.channel.val].control.state = .service → s.chan[r.channel.val].control.state = .service
  borrows : ∀ (i : Fin 64) (p : Fin 8), t.table[i.val] = .lent p → s.Borrows p → t.Borrows p
  store : t.store = s.store
  loader : t.loader = s.loader
  allocator : t.allocator = s.allocator
  spare : t.spare = s.spare
  reply : t.reply = s.reply
  spiOut : t.spiOut = s.spiOut
  pending : t.pending = s.pending

theorem ChannelState.running_of_started {x : ChannelState} (h : x.started = true) : x.running = true := by
  cases x <;> simp_all [ChannelState.started, ChannelState.running]

namespace State.EngineFrame

variable {s t u : State}

theorem refl (s : State) : s.EngineFrame s where
  kept _ := rfl
  control _ := .inl rfl
  entry _ := .inl rfl
  tentative _ _ _ h := h
  borrows _ _ _ h := h
  store := rfl
  loader := rfl
  allocator := rfl
  spare := rfl
  reply := rfl
  spiOut := rfl
  pending := rfl

/-- An engine starts no run. -/
theorem started (h : s.EngineFrame t) (c : Chan) (ht : t.chan[c.val].control.state.started = true) :
    s.chan[c.val].control.state.started = true := by
  rcases h.control c with e | ⟨hs, -⟩
  · rwa [e] at ht
  · exact hs

theorem lent (h : s.EngineFrame t) {i : Fin 64} {p : Fin 8} (ht : t.table[i.val] = .lent p) :
    s.table[i.val] = .lent p := by
  rcases h.entry i with e | ⟨_, _, e⟩ | ⟨_, _, e, _⟩
  · rw [← e, ht]
  · rw [e] at ht; cases ht
  · rw [e] at ht; cases ht

theorem tentative_of (h : s.EngineFrame t) {i : Fin 64} {r : Repair} (ht : t.table[i.val] = .tentative r) :
    s.table[i.val] = .tentative r := by
  rcases h.entry i with e | ⟨_, _, e⟩ | ⟨_, _, e, _⟩
  · rw [← e, ht]
  · rw [e] at ht; cases ht
  · rw [e] at ht; cases ht

/-- No valid entry comes or goes. -/
theorem repair (h : s.EngineFrame t) (i : Fin 64) : t.table[i.val].repair? = s.table[i.val].repair? := by
  rcases h.entry i with e | ⟨_, hs, ht⟩ | ⟨_, hs, ht, _⟩
  · rw [e]
  · rw [hs, ht]; rfl
  · rw [hs, ht]; rfl

theorem trans (h : s.EngineFrame t) (h' : t.EngineFrame u) : s.EngineFrame u where
  kept c := (h'.kept c).trans (h.kept c)
  control c := by
    rcases h'.control c with e' | ⟨hs', hu⟩
    · rw [e']; exact h.control c
    · exact .inr ⟨h.started c hs', hu⟩
  entry i := by
    rcases h'.entry i with e' | ⟨p, ht, hu⟩ | ⟨r, ht, hu, hst⟩
    · rw [e']; exact h.entry i
    · exact .inr (.inl ⟨p, h.lent ht, hu⟩)
    · exact .inr (.inr ⟨r, h.tentative_of ht, hu, h.started _ hst⟩)
  tentative i r hu hs := h.tentative i r (h'.tentative_of hu) (h'.tentative i r hu hs)
  borrows i p hu hb := h'.borrows i p hu (h.borrows i p (h'.lent hu) hb)
  store := h'.store.trans h.store
  loader := h'.loader.trans h.loader
  allocator := h'.allocator.trans h.allocator
  spare := h'.spare.trans h.spare
  reply := h'.reply.trans h.reply
  spiOut := h'.spiOut.trans h.spiOut
  pending := h'.pending.trans h.pending

theorem setup (h : s.EngineFrame t) (c : Chan) : t.chan[c.val].setup = s.chan[c.val].setup :=
  congrArg ChannelKept.setup (h.kept c)

theorem returns (h : s.EngineFrame t) (c : Chan) : t.chan[c.val].path.returns = s.chan[c.val].path.returns :=
  congrArg ChannelKept.returns (h.kept c)

theorem anomalies (h : s.EngineFrame t) (c : Chan) : t.chan[c.val].path.anomalies = s.chan[c.val].path.anomalies :=
  congrArg ChannelKept.anomalies (h.kept c)

theorem outstanding (h : s.EngineFrame t) (c : Chan) :
    t.chan[c.val].engine.outstanding = s.chan[c.val].engine.outstanding :=
  congrArg ChannelKept.outstanding (h.kept c)

theorem reading (h : s.EngineFrame t) (c : Chan) : t.chan[c.val].engine.reading = s.chan[c.val].engine.reading := by
  simp only [Engine.reading, h.outstanding c]

theorem queue (h : s.EngineFrame t) (c : Chan) : t.chan[c.val].queue = s.chan[c.val].queue :=
  congrArg ChannelKept.queue (h.kept c)

theorem tally (h : s.EngineFrame t) (c : Chan) : t.chan[c.val].allocation.tally = s.chan[c.val].allocation.tally :=
  congrArg ChannelKept.tally (h.kept c)

theorem reserve (h : s.EngineFrame t) (c : Chan) :
    t.chan[c.val].allocation.reserve = s.chan[c.val].allocation.reserve :=
  congrArg ChannelKept.reserve (h.kept c)

theorem patterns (h : s.EngineFrame t) (c : Chan) : t.chan[c.val].patterns = s.chan[c.val].patterns :=
  congrArg ChannelKept.patterns (h.kept c)

theorem candidate (h : s.EngineFrame t) (c : Chan) :
    t.chan[c.val].control.candidate = s.chan[c.val].control.candidate :=
  congrArg ChannelKept.candidate (h.kept c)

theorem names (h : s.EngineFrame t) (c : Chan) (p : Fin 8) : t.chan[c.val].names p = s.chan[c.val].names p := by
  simp only [Channel.names, h.setup c]

/-- A change of channels that leaves the table and every channel's life cycle. -/
theorem of_control (hk : ∀ c : Chan, t.chan[c.val].kept = s.chan[c.val].kept)
    (hc : ∀ c : Chan, t.chan[c.val].control = s.chan[c.val].control) (ht : t.table = s.table) (he : t.store = s.store)
    (hl : t.loader = s.loader) (ha : t.allocator = s.allocator) (hs : t.spare = s.spare) (hr : t.reply = s.reply)
    (hb : t.spiOut = s.spiOut) (hp : t.pending = s.pending) : s.EngineFrame t where
  kept := hk
  control c := .inl (hc c)
  entry i := .inl (by rw [ht])
  tentative i r _ h := by rwa [← hc]
  borrows i p _ := by
    rintro ⟨ch, hrun, hn⟩
    have hsetup : t.chan[ch.val].setup = s.chan[ch.val].setup := congrArg ChannelKept.setup (hk ch)
    exact ⟨ch, by rwa [hc], by simpa only [Channel.names, hsetup] using hn⟩
  store := he
  loader := hl
  allocator := ha
  spare := hs
  reply := hr
  spiOut := hb
  pending := hp

/-- An update of one channel that leaves what an engine leaves, and the life cycle. -/
theorem onChan (s : State) (ch : Chan) (f : Channel → Channel) (hk : (f s.chan[ch.val]).kept = s.chan[ch.val].kept)
    (hc : (f s.chan[ch.val]).control = s.chan[ch.val].control) : s.EngineFrame (s.onChan ch f) := by
  refine of_control (fun c => ?_) (fun c => ?_) rfl rfl rfl rfl rfl rfl rfl rfl
  · rw [State.onChan_chan]
    split
    · rename_i e; rw [hk, e]
    · rfl
  · rw [State.onChan_chan]
    split
    · rename_i e; rw [hc, e]
    · rfl

theorem onEngine (s : State) (ch : Chan) (f : Engine → Engine)
    (h : (f s.chan[ch.val].engine).outstanding = s.chan[ch.val].engine.outstanding) :
    s.EngineFrame (s.onEngine ch f) :=
  onChan s ch _ (by simp only [Channel.kept, h]) rfl

theorem onTimers (s : State) (ch : Chan) (f : Timers → Timers) : s.EngineFrame (s.onTimers ch f) :=
  onChan s ch _ rfl rfl

theorem drive (s : State) (ch : Chan) (cmd : DeviceCommand) : s.EngineFrame (s.drive ch cmd) := by
  rw [State.drive_eq]
  exact onChan s ch _ rfl rfl

theorem setArbiter (s : State) (a : Arbiter) : s.EngineFrame (s.setArbiter a) :=
  of_control (fun _ => rfl) (fun _ => rfl) rfl rfl rfl rfl rfl rfl rfl rfl

end State.EngineFrame

/-! ## The engine's operations stay within the frame -/

namespace State

theorem serviceOwed_frame (s : State) (ch : Chan) : s.EngineFrame (s.serviceOwed ch) := by
  rw [State.serviceOwed_eq]
  exact .onChan s ch _ rfl rfl

theorem startSweep_frame (s : State) (ch : Chan) : s.EngineFrame (s.startSweep ch) := by
  unfold State.startSweep
  dsimp only
  split
  · exact .onEngine s ch _ rfl
  all_goals exact .refl s

theorem requestToken_frame (s : State) (ch : Chan) : s.EngineFrame (s.requestToken ch) := by
  unfold State.requestToken
  split
  · exact (EngineFrame.setArbiter s _).trans (startSweep_frame _ ch)
  · exact .setArbiter s _

theorem releaseToken_frame (s : State) (ch : Chan) : s.EngineFrame (s.releaseToken ch) := by
  unfold State.releaseToken
  split
  · dsimp only
    split
    · exact .setArbiter s _
    · exact (EngineFrame.setArbiter s _).trans (startSweep_frame _ _)
  · exact .refl s

theorem beginChain_frame (s : State) (ch : Chan) (m : March) (chain : List Nat) :
    s.EngineFrame (s.beginChain ch m chain) :=
  ((EngineFrame.onEngine s ch _ rfl).trans (serviceOwed_frame _ ch)).trans (requestToken_frame _ ch)

theorem enterHold_frame (s : State) (ch : Chan) (duration : Nat) (refresh : HoldRefresh) :
    s.EngineFrame (s.enterHold ch duration refresh) := by
  rw [State.enterHold_eq]
  exact .onChan s ch _ rfl rfl

theorem placeRequest_frame (s : State) (ch : Chan) : s.EngineFrame (s.placeRequest ch) := by
  unfold State.placeRequest
  rw [State.onAllocation_eq]
  exact .onChan s ch _ rfl rfl

/-! ### The end of a run (R151) -/

theorem copyResult_chan (s : State) (ch c : Chan) : (s.copyResult ch).chan[c.val] =
    if ch = c then { s.chan[ch.val] with result :=
      { substitutes := s.substituteCount ch, remaps := s.remapCount ch
        allocation := s.chan[ch.val].allocation.counters, queue := s.chan[ch.val].queue.counters
        holdClamps := s.chan[ch.val].timers.holdClamps, engine := s.chan[ch.val].engine.counters
        firstRaw := s.chan[ch.val].queue.firstRaw, firstVerify := s.chan[ch.val].queue.firstVerify
        runTime := s.chan[ch.val].timers.clock } }
    else s.chan[c.val] := by
  unfold State.copyResult
  rw [State.onChan_chan]

/-- The results that the Result Block copies from a channel at the end of its run (R171). -/
def endResult (s : State) (ch : Chan) : CopiedResult :=
  { substitutes := s.substituteCount ch, remaps := s.remapCount ch
    allocation := s.chan[ch.val].allocation.counters, queue := s.chan[ch.val].queue.counters
    holdClamps := s.chan[ch.val].timers.holdClamps, engine := s.chan[ch.val].engine.counters
    firstRaw := s.chan[ch.val].queue.firstRaw, firstVerify := s.chan[ch.val].queue.firstVerify
    runTime := s.chan[ch.val].timers.clock }

theorem substituteCount_congr {s t : State} (h : ∀ i : Fin 64, t.table[i.val].repair? = s.table[i.val].repair?)
    (ch : Chan) : t.substituteCount ch = s.substituteCount ch := State.countRepairs_congr h _

theorem remapCount_congr {s t : State} (h : ∀ i : Fin 64, t.table[i.val].repair? = s.table[i.val].repair?)
    (ch : Chan) : t.remapCount ch = s.remapCount ch := State.countRepairs_congr h _

/-- A run that its counts condemn: the channel fails and keeps its entries. -/
theorem endRun_chan_condemned (s : State) (ch : Chan) (h : s.chan[ch.val].condemned = true) :
    (s.endRun ch).chan[ch.val] = { s.chan[ch.val] with
      timers := { s.chan[ch.val].timers with clockRunning := false }, result := s.endResult ch
      control := { s.chan[ch.val].control with state := .failed, outcome := .failed } } := by
  have hr (i : Fin 64) : ((s.stopClock ch).returnLines ch).table[i.val].repair? = s.table[i.val].repair? :=
    State.returnLines_repair _ ch i
  rw [State.endRun_eq, if_pos h, State.onControl_same, State.copyResult_chan, if_pos rfl, substituteCount_congr hr,
    remapCount_congr hr]
  simp only [State.returnLines_chan, State.stopClock, State.onTimers_same, endResult]

/-- A run that its counts do not condemn: the channel enters SERVICE. -/
theorem endRun_chan_served (s : State) (ch : Chan) (h : s.chan[ch.val].condemned = false) :
    (s.endRun ch).chan[ch.val] = { s.chan[ch.val] with
      timers := { s.chan[ch.val].timers with clockRunning := false }, result := s.endResult ch
      path := { s.chan[ch.val].path with tracker := allClosed }
      control := { s.chan[ch.val].control with
        state := .service
        outcome := if s.substituteCount ch + s.remapCount ch = 0 then .pass else .repaired } } := by
  have hr (i : Fin 64) : (((s.stopClock ch).commit ch).returnLines ch).table[i.val].repair?
      = s.table[i.val].repair? := by
    rw [State.returnLines_repair, State.commit_repair]
    rfl
  rw [State.endRun_eq, if_neg (by simp [h]), State.enterService, State.onControl_same, State.onPath_same,
    State.copyResult_chan, if_pos rfl, substituteCount_congr hr, remapCount_congr hr]
  simp only [State.returnLines_chan, State.commit_chan, State.stopClock, State.onTimers_same, endResult]

theorem endRun_chan_other (s : State) {ch c : Chan} (h : ch ≠ c) : (s.endRun ch).chan[c.val] = s.chan[c.val] := by
  rw [State.endRun_eq]
  split
  · rw [State.onControl_other _ h, State.copyResult_chan, if_neg h, State.returnLines_chan, State.stopClock,
      State.onTimers_other _ h]
  · rw [State.enterService, State.onControl_other _ h, State.onPath_other _ h, State.copyResult_chan, if_neg h,
      State.returnLines_chan, State.commit_chan, State.stopClock, State.onTimers_other _ h]

/-- The entries after the end of a run: commit, unless the run failed, and the return of lines (R15, R21). -/
theorem endRun_entry (s : State) (ch : Chan) (i : Fin 64) : (s.endRun ch).table[i.val] =
    match s.table[i.val] with
    | .free => .free
    | .lent p => if s.borrowed ch p then .lent p else .free
    | .tentative r => if s.chan[ch.val].condemned = false ∧ r.channel = ch then .active r else .tentative r
    | .active r => .active r := by
  have hb (t : State) (h : t.chan = (s.stopClock ch).chan) (p : Fin 8) : t.borrowed ch p = s.borrowed ch p := by
    refine State.borrowed_congr (fun c => ?_) (fun c => ?_) ch p <;>
    · rw [h, State.stopClock, State.onTimers_chan]
      split
      · rename_i e; rw [e]
      · rfl
  rw [State.endRun_eq]
  cases hc : s.chan[ch.val].condemned
  · rw [if_neg (by simp), State.enterService_table, State.copyResult_table, State.returnLines_entry,
      State.commit_entry, State.stopClock_table]
    cases s.table[i.val] with
    | free => rfl
    | lent p => simp only [Entry.commit, hb _ (State.commit_chan _ ch) p]
    | tentative r =>
      by_cases hr : r.channel = ch <;> simp [Entry.commit, hr]
    | active r => rfl
  · rw [if_pos rfl, State.onControl_table, State.copyResult_table, State.returnLines_entry, State.stopClock_table]
    cases s.table[i.val] with
    | free => rfl
    | lent p => simp only [hb _ rfl p]
    | tentative r => simp
    | active r => rfl

/-- The end of a run changes the channel, its entries and lines alone. -/
theorem endRun_rest (s : State) (ch : Chan) :
    (s.endRun ch).store = s.store ∧ (s.endRun ch).loader = s.loader ∧ (s.endRun ch).allocator = s.allocator
      ∧ (s.endRun ch).spare = s.spare ∧ (s.endRun ch).reply = s.reply ∧ (s.endRun ch).spiOut = s.spiOut
      ∧ (s.endRun ch).pending = s.pending ∧ (s.endRun ch).arbiter = s.arbiter := by
  rw [State.endRun_eq]
  split
  · simp [State.copyResult, State.stopClock]
  · simp [State.enterService, State.copyResult, State.stopClock]

theorem borrowed_iff (s : State) (ch : Chan) (p : Fin 8) : s.borrowed ch p = true ↔
    ∃ c : Chan, c ≠ ch ∧ s.chan[c.val].control.state.running = true ∧ s.chan[c.val].names p = true := by
  simp [State.borrowed, and_assoc]

theorem endRun_frame (s : State) (ch : Chan) (hst : s.chan[ch.val].control.state.started = true) :
    s.EngineFrame (s.endRun ch) := by
  obtain ⟨hstore, hloader, hallocator, hspare, hreply, hspi, hpending, -⟩ := s.endRun_rest ch
  have hentry := s.endRun_entry ch
  refine { kept := fun c => ?_, control := fun c => ?_, entry := fun i => ?_, tentative := fun i r => ?_,
           borrows := fun i p => ?_, store := hstore, loader := hloader, allocator := hallocator, spare := hspare,
           reply := hreply, spiOut := hspi, pending := hpending }
  · by_cases e : ch = c
    · subst e
      cases hc : s.chan[ch.val].condemned
      · rw [endRun_chan_served s ch hc]; rfl
      · rw [endRun_chan_condemned s ch hc]; rfl
    · rw [endRun_chan_other s e]
  · by_cases e : ch = c
    · subst e
      cases hc : s.chan[ch.val].condemned
      · rw [endRun_chan_served s ch hc]; exact .inr ⟨hst, .inr (.inr rfl)⟩
      · rw [endRun_chan_condemned s ch hc]; exact .inr ⟨hst, .inr (.inl rfl)⟩
    · rw [endRun_chan_other s e]; exact .inl rfl
  · rw [hentry]
    cases s.table[i.val] with
    | free => exact .inl rfl
    | lent p => cases hb : s.borrowed ch p <;> simp [hb]
    | tentative r =>
      by_cases hr : s.chan[ch.val].condemned = false ∧ r.channel = ch
      · exact .inr (.inr ⟨r, rfl, if_pos hr, hr.2 ▸ hst⟩)
      · exact .inl (if_neg hr)
    | active r => exact .inl rfl
  · intro ht hs
    by_cases e : ch = r.channel
    · subst e
      cases hc : s.chan[r.channel.val].condemned
      · rw [hentry, hc] at ht
        cases hs' : s.table[i.val] with
        | free => simp [hs'] at ht
        | lent p => simp only [hs'] at ht; split at ht <;> cases ht
        | tentative q => simp only [hs'] at ht; split at ht <;> simp_all
        | active q => simp [hs'] at ht
      · rw [endRun_chan_condemned s _ hc] at hs; cases hs
    · rwa [endRun_chan_other s e] at hs
  · intro ht _
    rw [hentry] at ht
    cases hs' : s.table[i.val] with
    | free => simp [hs'] at ht
    | tentative q => simp only [hs'] at ht; split at ht <;> cases ht
    | active q => simp [hs'] at ht
    | lent q =>
      simp only [hs'] at ht
      split at ht
      · cases ht
        rename_i hb
        obtain ⟨c, hne, hrun, hn⟩ := (s.borrowed_iff ch p).1 hb
        have e := endRun_chan_other s (Ne.symm hne)
        exact ⟨c, by rwa [e], by rwa [e]⟩
      · cases ht

/-! ### Drain, taking an element and the end of an operation -/

theorem engineCloseAll_frame (s : State) (ch : Chan) : s.EngineFrame (s.engineCloseAll ch) :=
  (EngineFrame.drive s ch _).trans (.onEngine _ ch _ rfl)

theorem finishRun_frame (s : State) (ch : Chan) : s.EngineFrame (s.finishRun ch) := by
  unfold State.finishRun
  have h : s.EngineFrame (((s.engineCloseAll ch).onEngine ch fun e => { e with state := .done }).onTimers ch
      Timers.stopRefresh) :=
    ((engineCloseAll_frame s ch).trans (.onEngine _ ch _ rfl)).trans (.onTimers _ ch _)
  dsimp only [Fin.getElem_fin]
  split
  · rename_i ha
    exact h.trans (endRun_frame _ ch (by rw [ha]; rfl))
  · exact h

theorem drainTest_frame (s : State) (ch : Chan) : s.EngineFrame (s.drainTest ch) := by
  unfold State.drainTest
  dsimp only
  split
  · split
    · exact placeRequest_frame s ch
    · split
      · exact placeRequest_frame s ch
      · exact finishRun_frame s ch
    all_goals exact .refl s
  · exact .refl s

/-- A report that moves a channel between states of a started run. -/
theorem report_frame (s : State) (ch : Chan) {takenIn : List ChannelState} {after : ChannelState}
    (ht : ∀ x ∈ takenIn, x.started = true) (ha : after.started = true) :
    s.EngineFrame (s.report ch takenIn after) := by
  unfold State.report
  split
  · rename_i h
    have hst : s.chan[ch.val].control.state.started = true := ht _ (by simpa using h)
    have hc (c : Chan) : (s.onControl ch fun k => { k with state := after }).chan[c.val]
        = if ch = c then { s.chan[ch.val] with control := { s.chan[ch.val].control with state := after } }
          else s.chan[c.val] := State.onControl_chan s ch c _
    refine { kept := fun c => ?_, control := fun c => ?_, entry := fun i => .inl rfl, tentative := fun i r _ => ?_,
             borrows := fun i p _ => ?_, store := rfl, loader := rfl, allocator := rfl, spare := rfl,
             reply := rfl, spiOut := rfl, pending := rfl }
    · rw [hc]
      split
      · rename_i e; subst e; rfl
      · rfl
    · rw [hc]
      split
      · rename_i e; subst e; exact .inr ⟨hst, .inl ha⟩
      · exact .inl rfl
    · rw [hc]
      split
      · intro hs
        simp only at hs
        rw [hs] at ha
        cases ha
      · exact id
    · rintro ⟨c, hrun, hn⟩
      refine ⟨c, ?_, ?_⟩ <;> rw [hc] <;> split
      · exact ChannelState.running_of_started ha
      · exact hrun
      · rename_i e; subst e; exact hn
      · exact hn
  · exact .refl s

theorem enterDrain_frame (s : State) (ch : Chan) {takenIn : List ChannelState}
    (ht : ∀ x ∈ takenIn, x.started = true) : s.EngineFrame (s.enterDrain ch takenIn) := by
  unfold State.enterDrain
  exact ((((engineCloseAll_frame s ch).trans (.onEngine _ ch _ rfl)).trans (report_frame _ ch ht rfl)).trans
    (serviceOwed_frame _ ch)).trans (drainTest_frame _ ch)

theorem takeElement_frame (ch : Chan) (fuel : Nat) (s : State) : s.EngineFrame (State.takeElement ch fuel s) := by
  induction fuel generalizing s with
  | zero => exact .refl s
  | succ fuel ih =>
    unfold State.takeElement
    dsimp only
    split
    · split
      · exact beginChain_frame s ch _ _
      · exact .refl s
    · exact enterHold_frame s ch _ _
    · split
      · exact (EngineFrame.onEngine s ch _ rfl).trans (ih _)
      · split
        · exact (EngineFrame.onEngine s ch _ rfl).trans (ih _)
        · exact (EngineFrame.onEngine s ch _ rfl).trans (ih _)
    · exact enterDrain_frame s ch (by simp [ChannelState.started])
    · exact enterDrain_frame s ch (by simp [ChannelState.started])
    · exact .refl s
    · exact .refl s

theorem takeElementAt_frame (s : State) (ch : Chan) (i : Nat) : s.EngineFrame (s.takeElementAt ch i) :=
  (EngineFrame.onEngine s ch _ rfl).trans (takeElement_frame ch _ _)

theorem endChain_frame (s : State) (ch : Chan) : s.EngineFrame (s.endChain ch) :=
  ((EngineFrame.onEngine s ch _ rfl).trans (releaseToken_frame _ ch)).trans (takeElementAt_frame _ ch _)

theorem advance_frame (s : State) (ch : Chan) : s.EngineFrame (s.advance ch) := by
  unfold State.advance
  split
  · split
    · exact .onEngine s ch _ rfl
    · exact endChain_frame s ch
  · exact .refl s

theorem operationDone_frame (s : State) (ch : Chan) : s.EngineFrame (s.operationDone ch) := by
  unfold State.operationDone
  split
  · exact .onEngine s ch _ rfl
  · exact advance_frame s ch

theorem analysisReport_frame (s : State) (ch : Chan) : s.EngineFrame (s.analysisReport ch) := by
  unfold State.analysisReport
  split
  · split
    · exact ((EngineFrame.onEngine s ch _ rfl).trans (report_frame _ ch (by simp [ChannelState.started]) rfl)).trans
        (takeElementAt_frame _ ch _)
    · exact finishRun_frame s ch
    all_goals exact .refl s
  · exact .refl s

end State

end Sys2Proof.Machine

/-! PROOFS. The allocator's choice (R126), and the steps of PREPARING up to the start of the engine (R149): what `prepared` holds,
part by part. -/

namespace Sys2Proof.Machine

/-! ## The allocator's choice (R126, R127) -/

/-- The four channels after any one are all four. -/
theorem nextInCycle_none {last : Chan} {p : Chan → Bool} (h : nextInCycle last 4 p = none) (ch : Chan) :
    p ch = false := by
  unfold nextInCycle at h
  rw [List.find?_eq_none] at h
  have hall : ∀ last ch : Chan, ch ∈ (List.range 4).map fun k => Fin.ofNat 4 (last.val + 1 + k) := by decide
  simpa using h ch (hall last ch)

/-- A choice is none, with no work before an idle allocator, or the take of a channel's work. -/
theorem State.choose_cases (s : State) : s.choose = s ∧ s.ChoiceLaw
    ∨ ∃ ch : Chan, s.allocator.item = .idle ∧ s.chan[ch.val].hasWork = true ∧ s.choose = s.takeWork ch := by
  by_cases hi : s.allocator.item = .idle
  · cases hn : nextInCycle s.allocator.lastServed 4 fun ch => s.chan[ch.val].hasWork with
    | none =>
      refine .inl ⟨?_, fun _ ch => nextInCycle_none hn ch⟩
      exact s.choose_idle fun _ ch => nextInCycle_none hn ch
    | some ch => exact .inr ⟨ch, hi, nextInCycle_meets hn, s.choose_next ch hi hn⟩
  · exact .inl ⟨s.choose_busy hi, fun h => absurd h hi⟩

/-- The choice leaves an idle allocator only without work before it. -/
theorem State.choose_choiceLaw (s : State) : s.choose.ChoiceLaw := by
  rcases s.choose_cases with ⟨e, h⟩ | ⟨ch, -, hw, e⟩
  · rwa [e]
  · intro hi
    rw [e] at hi
    exact absurd hi (s.takeWork_item ch hw)

/-- A take touches its channel's queue and request, and an engine that stalls; and the item. -/
theorem State.takeWork_chan (s : State) (ch c : Chan) : ∃ (records : List FailRecord) (request : Option Bool)
    (state : EngineState), (s.takeWork ch).chan[c.val] = { s.chan[c.val] with
      queue := { s.chan[c.val].queue with records := records }
      engine := { s.chan[c.val].engine with state := state }
      allocation := { s.chan[c.val].allocation with request := request } } := by
  have same (d : Channel) : d = { d with
      queue := { d.queue with records := d.queue.records }, engine := { d.engine with state := d.engine.state }
      allocation := { d.allocation with request := d.allocation.request } } := rfl
  by_cases e : ch = c
  · subst e
    cases hq : s.chan[ch.val].queue.records with
    | cons f rest =>
      rw [State.takeWork_record s ch f rest hq, State.onChan_same]
      exact ⟨_, _, _, rfl⟩
    | nil =>
      cases hr : s.chan[ch.val].allocation.request with
      | some flag =>
        rw [State.takeWork_analysis s ch flag hq hr, State.onAllocation_same]
        exact ⟨_, _, _, rfl⟩
      | none =>
        have hn : s.takeWork ch = s := by simp only [State.takeWork, Fin.getElem_fin, hq, hr]
        rw [hn]
        exact ⟨_, _, _, rfl⟩
  · refine ⟨_, _, _, Eq.trans ?_ (same _)⟩
    cases hq : s.chan[ch.val].queue.records with
    | cons f rest => rw [State.takeWork_record s ch f rest hq, State.onChan_other _ e, State.setAllocator_chan]
    | nil =>
      cases hr : s.chan[ch.val].allocation.request with
      | some flag =>
        rw [State.takeWork_analysis s ch flag hq hr, State.onAllocation_other _ e, State.setAllocator_chan]
      | none => simp only [State.takeWork, Fin.getElem_fin, hq, hr]

/-- The choice touches queues, requests, stalled engines and the allocator alone. -/
theorem State.choose_chan (s : State) (c : Chan) : ∃ (records : List FailRecord) (request : Option Bool)
    (state : EngineState), s.choose.chan[c.val] = { s.chan[c.val] with
      queue := { s.chan[c.val].queue with records := records }
      engine := { s.chan[c.val].engine with state := state }
      allocation := { s.chan[c.val].allocation with request := request } } := by
  rcases s.choose_cases with ⟨e, -⟩ | ⟨ch, -, -, e⟩
  · exact ⟨_, _, _, by rw [e]⟩
  · rw [e]; exact s.takeWork_chan ch c

@[simp] theorem State.choose_table (s : State) : s.choose.table = s.table := s.choose_frame.1
@[simp] theorem State.choose_store (s : State) : s.choose.store = s.store := s.choose_frame.2.2.1
@[simp] theorem State.choose_arbiter (s : State) : s.choose.arbiter = s.arbiter := s.choose_frame.2.2.2.1
@[simp] theorem State.choose_loader (s : State) : s.choose.loader = s.loader := s.choose_frame.2.2.2.2.1

section Choose

variable (s : State) (c : Chan)

theorem State.choose_control : s.choose.chan[c.val].control = s.chan[c.val].control := by
  obtain ⟨_, _, _, e⟩ := s.choose_chan c; rw [e]

theorem State.choose_setup : s.choose.chan[c.val].setup = s.chan[c.val].setup := by
  obtain ⟨_, _, _, e⟩ := s.choose_chan c; rw [e]

theorem State.choose_path : s.choose.chan[c.val].path = s.chan[c.val].path := by
  obtain ⟨_, _, _, e⟩ := s.choose_chan c; rw [e]

theorem State.choose_outstanding : s.choose.chan[c.val].engine.outstanding = s.chan[c.val].engine.outstanding := by
  obtain ⟨_, _, _, e⟩ := s.choose_chan c; rw [e]

theorem State.choose_tally : s.choose.chan[c.val].allocation.tally = s.chan[c.val].allocation.tally := by
  obtain ⟨_, _, _, e⟩ := s.choose_chan c; rw [e]

theorem State.choose_reserve : s.choose.chan[c.val].allocation.reserve = s.chan[c.val].allocation.reserve := by
  obtain ⟨_, _, _, e⟩ := s.choose_chan c; rw [e]

end Choose

/-- Nothing but the channels, the table and the Spare Store differs. -/
structure State.SameRest (s t : State) : Prop where
  store : t.store = s.store
  arbiter : t.arbiter = s.arbiter
  allocator : t.allocator = s.allocator
  loader : t.loader = s.loader
  reply : t.reply = s.reply
  spiOut : t.spiOut = s.spiOut
  pending : t.pending = s.pending

theorem State.SameRest.trans {s t u : State} (h : s.SameRest t) (h' : t.SameRest u) : s.SameRest u :=
  ⟨h'.store.trans h.store, h'.arbiter.trans h.arbiter, h'.allocator.trans h.allocator, h'.loader.trans h.loader,
    h'.reply.trans h.reply, h'.spiOut.trans h.spiOut, h'.pending.trans h.pending⟩

/-! ## The commands to the devices (steps 1 and 2 of R149) -/

/-- The MODE SETs of a channel's settings, as commands (R161). -/
def Channel.modeSetCommands (c : Channel) : List DeviceCommand :=
  match c.setup.settings with
  | some st => st.modeSets.map fun m => .modeSet m.register m.value
  | none => []

theorem State.foldl_drive (ch : Chan) (l : List ModeSet) (s : State) :
    l.foldl (fun s m => s.drive ch (.modeSet m.register m.value)) s = s.onChan ch fun c => { c with
      pins := { c.pins with toDevice := c.pins.toDevice ++ l.map fun m => .modeSet m.register m.value } } := by
  induction l generalizing s with
  | nil => rw [List.foldl_nil, State.onChan_id _ _ _ (by simp)]
  | cons m l ih =>
    rw [List.foldl_cons, ih, State.drive_eq, State.onChan_onChan]
    exact State.onChan_congr _ _ (by simp)

theorem State.prepareDevices_eq (s : State) (ch : Chan) : s.prepareDevices ch = s.onChan ch fun c => { c with
    pins := { c.pins with toDevice := c.pins.toDevice ++ .closeAll :: c.modeSetCommands } } := by
  unfold State.prepareDevices
  dsimp only [Fin.getElem_fin]
  rw [State.foldl_drive, State.drive_eq, State.onChan_onChan]
  refine State.onChan_congr _ _ ?_
  unfold Channel.modeSetCommands
  cases s.chan[ch.val].setup.settings <;> simp

/-! ## Lending (R19) -/

/-- What a channel's pattern set says of a pattern once its lines are lent. -/
def State.lendUse (s : State) (ch : Chan) (p : Fin 8) : PatternUse :=
  if s.chan[ch.val].names p then
    match s.table[(patternEntry p).val] with
    | .free => if (s.loader.patternTable[p.val]?).isSome then .lent else .unavailable
    | .lent _ => .lent
    | .tentative _ => .unavailable
    | .active _ => .unavailable
  else .notNamed

/-- The line that is put in the Spare Store as a pattern is lent from a FREE entry. -/
def State.lendLine (s : State) (ch : Chan) (p : Fin 8) : Option Line :=
  if s.chan[ch.val].names p ∧ s.table[(patternEntry p).val] = .free then s.loader.patternTable[p.val]? else none

/-- Lending of one pattern, as one update of each part. -/
theorem State.lendPattern_eq (ch : Chan) (s : State) (p : Fin 8) : State.lendPattern ch s p =
    (match s.lendLine ch p with
      | some line => (s.setEntry (patternEntry p) (.lent p)).setLine (patternEntry p) line
      | none => s).setPattern ch p (s.lendUse ch p) := by
  unfold State.lendPattern State.lendLine State.lendUse
  simp only [Fin.getElem_fin]
  by_cases hn : s.chan[ch.val].names p = true
  · cases ht : s.table[(patternEntry p).val] <;> simp only [hn, if_true, true_and, reduceCtorEq, if_false]
    cases hl : s.loader.patternTable[p.val]? <;> simp
  · simp only [hn, if_false, false_and, Bool.false_eq_true]

theorem patternEntry_inj {p q : Fin 8} (h : patternEntry p = patternEntry q) : p = q := by
  simp only [patternEntry, Fin.mk.injEq] at h
  omega

/-- Lending of one pattern, part by part: its entry, its line, and what the pattern set says of it. -/
theorem State.lendPattern_spec (ch : Chan) (s : State) (p : Fin 8) :
    s.SameRest (State.lendPattern ch s p)
    ∧ (∀ c : Chan, (State.lendPattern ch s p).chan[c.val] = if ch = c then
        { s.chan[c.val] with patterns := s.chan[c.val].patterns.set p (s.lendUse ch p) } else s.chan[c.val])
    ∧ (∀ i : Fin 64, (State.lendPattern ch s p).table[i.val] =
        if i = patternEntry p ∧ (s.lendLine ch p).isSome then .lent p else s.table[i.val])
    ∧ ∀ i : Fin 64, (State.lendPattern ch s p).spare[i.val] =
        if i = patternEntry p then (s.lendLine ch p).getD s.spare[i.val] else s.spare[i.val] := by
  rw [State.lendPattern_eq]
  cases hl : s.lendLine ch p with
  | none =>
    refine ⟨⟨rfl, rfl, rfl, rfl, rfl, rfl, rfl⟩, fun c => ?_, fun i => ?_, fun i => ?_⟩
    · rw [State.setPattern, State.onChan_chan]
      split
      · rename_i e; subst e; rfl
      · rfl
    · simp [State.setPattern]
    · simp [State.setPattern]
  | some line =>
    refine ⟨⟨rfl, rfl, rfl, rfl, rfl, rfl, rfl⟩, fun c => ?_, fun i => ?_, fun i => ?_⟩
    · rw [State.setPattern, State.onChan_chan]
      split
      · rename_i e; subst e; rfl
      · rfl
    · simp [State.setPattern, eq_comm]
    · simp [State.setPattern, eq_comm]

end Sys2Proof.Machine

namespace Sys2Proof.Machine

/-- The patterns of a list have been lent to a channel, each as the state before decides. -/
structure State.Lends (s t : State) (ch : Chan) (l : List (Fin 8)) : Prop where
  rest : s.SameRest t
  chan : ∀ c : Chan, t.chan[c.val] =
    if ch = c then { s.chan[c.val] with patterns := t.chan[c.val].patterns } else s.chan[c.val]
  patterns : ∀ p : Fin 8, t.chan[ch.val].patterns[p.val] =
    if p ∈ l then s.lendUse ch p else s.chan[ch.val].patterns[p.val]
  lent : ∀ p ∈ l, t.table[(patternEntry p).val] =
      (if (s.lendLine ch p).isSome then .lent p else s.table[(patternEntry p).val])
    ∧ t.spare[(patternEntry p).val] = (s.lendLine ch p).getD s.spare[(patternEntry p).val]
  others : ∀ i : Fin 64, (∀ p ∈ l, i ≠ patternEntry p) → t.table[i.val] = s.table[i.val] ∧ t.spare[i.val] = s.spare[i.val]

/-- The lending of one pattern decides nothing about another. -/
theorem State.lend_congr {s : State} {ch : Chan} {p q : Fin 8} (h : q ≠ p) :
    (State.lendPattern ch s p).lendUse ch q = s.lendUse ch q
      ∧ (State.lendPattern ch s p).lendLine ch q = s.lendLine ch q := by
  obtain ⟨hrest, hchan, htable, -⟩ := State.lendPattern_spec ch s p
  have hn : (State.lendPattern ch s p).chan[ch.val].names q = s.chan[ch.val].names q := by
    rw [hchan, if_pos rfl]; rfl
  have ht : (State.lendPattern ch s p).table[(patternEntry q).val] = s.table[(patternEntry q).val] := by
    rw [htable, if_neg fun e => h (patternEntry_inj e.1)]
  have hl : (State.lendPattern ch s p).loader = s.loader := hrest.loader
  simp only [State.lendUse, State.lendLine, hn, ht, hl, and_self]

theorem State.foldl_lendPattern (ch : Chan) (l : List (Fin 8)) (hl : l.Nodup) (s : State) :
    s.Lends (l.foldl (State.lendPattern ch) s) ch l := by
  induction l generalizing s with
  | nil =>
    refine ⟨⟨rfl, rfl, rfl, rfl, rfl, rfl, rfl⟩, fun c => ?_, fun p => ?_, fun p hp => ?_, fun i _ => ⟨rfl, rfl⟩⟩
    · split <;> rfl
    · simp
    · simp at hp
  | cons p l ih =>
    obtain ⟨hp, hl⟩ := List.nodup_cons.1 hl
    obtain ⟨hrest, hchan, htable, hspare⟩ := State.lendPattern_spec ch s p
    have hother (q : Fin 8) (hq : q ∈ l) := State.lend_congr (s := s) (ch := ch) (p := p) (q := q)
      fun e => hp (e ▸ hq)
    have h := ih hl (State.lendPattern ch s p)
    rw [List.foldl_cons]
    generalize l.foldl (State.lendPattern ch) (State.lendPattern ch s p) = t at h
    refine ⟨?_, fun c => ?_, fun q => ?_, fun q hq => ?_, fun i hi => ?_⟩
    · exact hrest.trans h.rest
    · rw [h.chan, hchan]
      split <;> rfl
    · rw [h.patterns]
      by_cases hq : q ∈ l
      · rw [if_pos hq, if_pos (List.mem_cons_of_mem p hq), (hother q hq).1]
      · rw [if_neg hq, hchan, if_pos rfl]
        by_cases e : q = p
        · subst e; simp
        · have : ¬ p.val = q.val := fun h => e (Fin.ext h.symm)
          simp [e, hq, this]
    · by_cases e : q ∈ l
      · obtain ⟨h1, h2⟩ := h.lent q e
        have hne : ¬ patternEntry q = patternEntry p := fun h => hp (patternEntry_inj h ▸ e)
        have hne' : ¬ (patternEntry q = patternEntry p ∧ (s.lendLine ch p).isSome = true) := fun h => hne h.1
        rw [h1, h2, (hother q e).2, htable, hspare, if_neg hne', if_neg hne]
        exact ⟨rfl, rfl⟩
      · obtain rfl : q = p := by simpa [e] using hq
        obtain ⟨h1, h2⟩ := h.others (patternEntry q) fun p' hp' h => e (patternEntry_inj h ▸ hp')
        rw [h1, h2, htable, hspare]
        simp
    · obtain ⟨h1, h2⟩ := h.others i fun q hq => hi q (List.mem_cons_of_mem p hq)
      have hne := hi p List.mem_cons_self
      rw [h1, h2, htable, hspare, if_neg fun h => hne h.1, if_neg hne]
      exact ⟨rfl, rfl⟩

theorem State.lend_lends (s : State) (ch : Chan) : s.Lends (s.lend ch) ch (List.finRange 8) :=
  State.foldl_lendPattern ch _ (List.nodup_finRange 8) s

/-! ## The state in which the engine is started (R82, R149) -/

/-- A channel as its engine is started, but for its pattern set. -/
def Channel.prepared (c : Channel) : Channel :=
  { c with
    pins := { c.pins with toDevice := c.pins.toDevice ++ .closeAll :: c.modeSetCommands }
    control := { c.control with state := .testing, runCount := Counter.inc c.control.runCount }
    engine := { c.engine with
      pass := 0, phase := .raw, rawReadSweep := false, banks := allClosed, generator := AddressGenerator.empty,
      passSeed := none, refreshOwed := false, awaitingReturn := false, counters := EngineCounters.zero }
    timers := { c.timers with
      refreshMode := .running, refreshElapsed := 0, clockRunning := true, clock := 0, holdClamps := 0 }
    queue := { c.queue with counters := QueueCounters.zero, firstRaw := none, firstVerify := none }
    allocation := { c.allocation with
      tally := [], exhausted := false, counters := AllocationCounters.zero
      reserve := c.allocation.reserve.map fun bank => bank.map ReserveState.restart } }

/-- The program start of a channel's settings (R82). -/
def Channel.programStart (c : Channel) : Nat :=
  match c.setup.settings with
  | some st => st.programStart
  | none => 0

/-- The state in which the engine takes the program start: what PREPARING's steps leave (R149). -/
structure State.Prepares (s e : State) (ch : Chan) : Prop where
  rest : s.SameRest e
  same : e.chan[ch.val] = { s.chan[ch.val].prepared with patterns := e.chan[ch.val].patterns }
  other : ∀ c : Chan, ch ≠ c → e.chan[c.val] = s.chan[c.val]
  patterns : ∀ p : Fin 8, e.chan[ch.val].patterns[p.val] = s.lendUse ch p
  lent : ∀ p : Fin 8, e.table[(patternEntry p).val] = (if (s.lendLine ch p).isSome then .lent p
      else s.table[(patternEntry p).val].reopen ch)
    ∧ e.spare[(patternEntry p).val] = (s.lendLine ch p).getD s.spare[(patternEntry p).val]
  others : ∀ i : Fin 64, (∀ p, i ≠ patternEntry p) →
    e.table[i.val] = s.table[i.val].reopen ch ∧ e.spare[i.val] = s.spare[i.val]

/-- The state before the lines are lent: reopened, with an empty tally and the reserve rows reset. -/
def State.reopened (s : State) (ch : Chan) : State :=
  (((s.prepareDevices ch).reopen ch).onAllocation ch fun a => { a with tally := [] }).mapReserve ch
    ReserveState.restart

theorem Entry.reopen_eq_free (e : Entry) (ch : Chan) : e.reopen ch = .free ↔ e = .free := by
  cases e <;> simp [Entry.reopen, Entry.repair?] <;> split <;> simp

theorem State.reopened_chan (s : State) (ch c : Chan) : (s.reopened ch).chan[c.val] = if ch = c then
    { s.chan[c.val] with
      pins := { s.chan[c.val].pins with
        toDevice := s.chan[c.val].pins.toDevice ++ .closeAll :: s.chan[c.val].modeSetCommands }
      allocation := { s.chan[c.val].allocation with
        tally := []
        reserve := s.chan[c.val].allocation.reserve.map fun bank => bank.map ReserveState.restart } }
    else s.chan[c.val] := by
  simp only [State.reopened, State.mapReserve, State.onAllocation_eq, State.onChan_onChan, State.prepareDevices_eq]
  rw [State.onChan_chan]
  split
  · rename_i e
    subst e
    simp only [State.reopen_chan, State.onChan_same]
  · rename_i e
    rw [State.reopen_chan, State.onChan_other _ e]

theorem State.reopened_table (s : State) (ch : Chan) (i : Fin 64) :
    (s.reopened ch).table[i.val] = s.table[i.val].reopen ch := by
  rw [State.reopened, State.mapReserve, State.onAllocation_table, State.onAllocation_table, State.reopen,
    State.mapTable_table, State.prepareDevices_eq, State.onChan_table]

theorem State.reopened_rest (s : State) (ch : Chan) :
    s.SameRest (s.reopened ch) ∧ (s.reopened ch).spare = s.spare := by
  simp only [State.reopened, State.prepareDevices_eq]
  exact ⟨⟨rfl, rfl, rfl, rfl, rfl, rfl, rfl⟩, rfl⟩

/-- PREPARING's steps are the start of the engine from a state that `Prepares` describes. -/
theorem State.prepare_eq (s : State) (ch : Chan) :
    ∃ e : State, s.Prepares e ch ∧ s.prepare ch = e.takeElementAt ch s.chan[ch.val].programStart := by
  have hl := (s.reopened ch).lend_lends ch
  have hchan := s.reopened_chan ch
  obtain ⟨hrest, hspare⟩ := s.reopened_rest ch
  have hn (p : Fin 8) : (s.reopened ch).chan[ch.val].names p = s.chan[ch.val].names p := by
    rw [hchan, if_pos rfl]; rfl
  have hloader := hrest.loader
  have hline (p : Fin 8) : (s.reopened ch).lendLine ch p = s.lendLine ch p := by
    simp only [State.lendLine, hn, hloader, State.reopened_table, Entry.reopen_eq_free]
  have huse (p : Fin 8) : (s.reopened ch).lendUse ch p = s.lendUse ch p := by
    simp only [State.lendUse, hn, hloader, State.reopened_table]
    congr 1
    cases s.table[(patternEntry p).val] with
    | free => rfl
    | lent q => rfl
    | tentative r => by_cases h : r.channel = ch <;> simp [Entry.reopen, Entry.repair?, h]
    | active r => by_cases h : r.channel = ch <;> simp [Entry.reopen, Entry.repair?, h]
  generalize ht : (s.reopened ch).lend ch = t at hl
  refine ⟨(t.clearRun ch).onChan ch fun c => { c with
    engine := { c.engine with pass := 0, phase := .raw, rawReadSweep := false, banks := allClosed,
                              generator := AddressGenerator.empty, passSeed := none,
                              refreshOwed := false, awaitingReturn := false }
    timers := { c.timers with refreshMode := .running, refreshElapsed := 0 }
    control := { c.control with state := .testing } }, ?_, ?_⟩
  · rw [State.clearRun, State.onChan_onChan]
    have htc : t.chan[ch.val] = _ := (hl.chan ch).trans (if_pos rfl)
    rw [hchan, if_pos rfl] at htc
    refine ⟨?_, ?_, fun c hc => ?_, fun p => ?_, fun p => ?_, fun i hi => ?_⟩
    · exact (hrest.trans hl.rest).trans ⟨rfl, rfl, rfl, rfl, rfl, rfl, rfl⟩
    · rw [State.onChan_same, htc]
      rfl
    · rw [State.onChan_other _ hc, hl.chan, if_neg hc, hchan, if_neg hc]
    · rw [State.onChan_same, hl.patterns, if_pos (List.mem_finRange p), huse]
    · obtain ⟨h1, h2⟩ := hl.lent p (List.mem_finRange p)
      rw [State.onChan_table, State.onChan_spare, h1, h2, hline, State.reopened_table, hspare]
      exact ⟨rfl, rfl⟩
    · obtain ⟨h1, h2⟩ := hl.others i fun p _ => hi p
      rw [State.onChan_table, State.onChan_spare, h1, h2, State.reopened_table, hspare]
      exact ⟨rfl, rfl⟩
  · subst ht
    have hset : (((s.reopened ch).lend ch).clearRun ch).chan[ch.val].setup = s.chan[ch.val].setup := by
      rw [State.clearRun, State.onChan_same, hl.chan, if_pos rfl, hchan, if_pos rfl]
    have hprep : s.prepare ch = (((s.reopened ch).lend ch).clearRun ch).startEngine ch := rfl
    rw [hprep, State.startEngine]
    simp only [Fin.getElem_fin, hset, Channel.programStart] <;> rfl

end Sys2Proof.Machine

/-! PROOFS. What one step can do, said once: `Goes` lists the ways a command changes what the laws speak of, and every command
is one of them. A law is kept by every step if each of these ways keeps it. -/

namespace Sys2Proof.Machine

/-- The ways in which a command changes what the laws speak of. In each, `u` is the state before with other parts changed: idle
buses, a reply, tracked banks, counts, opened rows. -/
inductive State.Goes (c : Instr) (s : State) : State → Prop where
  | same {t : State} (h : s.SameWork t) : State.Goes c s t
  | powerOn (hc : c = .powerOnReset) : State.Goes c s (State.reset.setPending s.pending)
  | warm (hc : c = .warmRestart) : State.Goes c s s.warm
  | loadFailed {u : State} (status : ImageStatus) (h : s.SameWork u) (hp : s.loader.phase = .reading) :
      State.Goes c s (u.loadFailed status)
  | loadGood {u : State} (image : List Byte) (order : List Chan) (h : s.SameWork u) (hp : s.loader.phase = .reading) :
      State.Goes c s (u.loadGood image order)
  | retest {u : State} (ch : Chan) (hc : endsService ch c = true) (h : s.SameWork u)
      (hf : s.loader.phase = .finished)
      (hs : s.chan[ch.val].control.state = .service ∨ s.chan[ch.val].control.state = .failed) :
      State.Goes c s ((u.onControl ch fun k => { k with state := .preparing, outcome := .none }).prepareIfReady ch)
  | abort {u : State} (ch : Chan) (h : s.SameWork u) (hs : s.chan[ch.val].control.state.running = true) :
      State.Goes c s (u.takeAbort ch)
  | prepare {u : State} (ch : Chan) (h : s.SameWork u) (hs : s.chan[ch.val].control.state = .preparing) :
      State.Goes c s (u.prepare ch).choose
  | append {u : State} (ch : Chan) (item : ReturnItem) (h : s.SameWork u)
      (hl : s.chan[ch.val].path.returns.length < 32) (hi : s.chan[ch.val].path.returns = [] → item ≠ .poison) :
      State.Goes c s (u.appendReturn ch item)
  | answer {u : State} (ch : Chan) (item : ReturnItem) (rest : List ReturnItem) (h : s.SameWork u)
      (hr : oldestWaiting s.chan[ch.val].path.returns = some (item, rest)) :
      State.Goes c s (u.onPath ch fun p => { p with returns := rest.dropWhile fun x => x == .poison })
  | discard {u : State} (ch : Chan) (o : OutstandingRead) (h : s.SameWork u)
      (ho : s.chan[ch.val].engine.outstanding = some o) (hu : o.uncompared = true) :
      State.Goes c s (u.onEngine ch fun e => { e with outstanding := none, awaitingReturn := false }).choose
  | compare {u : State} (ch : Chan) (o : OutstandingRead) (word : Word) (h : s.SameWork u)
      (ho : s.chan[ch.val].engine.outstanding = some o) (hu : o.uncompared = false) :
      State.Goes c s (u.engineReturn ch o word).choose
  | write {u : State} (ch : Chan) (h : s.SameWork u) (hs : s.chan[ch.val].engine.state = .sweep)
      (hr : s.chan[ch.val].engine.reading = false) : State.Goes c s (u.operationDone ch).choose
  | stall {u : State} (ch : Chan) (h : s.SameWork u) (hs : s.chan[ch.val].engine.state = .sweep)
      (hr : s.chan[ch.val].engine.reading = false) :
      State.Goes c s (u.onEngine ch fun e => { e with state := .stall })
  | issue {u : State} (ch : Chan) (o : OutstandingRead) (h : s.SameWork u)
      (hs : s.chan[ch.val].engine.state = .sweep) (hr : s.chan[ch.val].engine.reading = false)
      (hq : s.chan[ch.val].queue.records.length < 16) :
      State.Goes c s (u.onEngine ch fun e => { e with outstanding := some o })
  | holdEnds {u : State} (ch : Chan) (i : Nat) (h : s.SameWork u) (hs : s.chan[ch.val].engine.state = .hold) :
      State.Goes c s (u.takeElementAt ch i).choose
  | service {u : State} (f : FailRecord) (kind : RecordClass) (h : s.SameWork u)
      (hi : s.allocator.item = .record f kind) :
      State.Goes c s ((u.serveRecord f kind).idleAllocator.drainTest f.channel).choose
  | analysis {u : State} (ch : Chan) (flag : Bool) (h : s.SameWork u) (hi : s.allocator.item = .analysis ch flag) :
      State.Goes c s ((u.analyse ch flag).idleAllocator.analysisReport ch).choose

namespace State

variable {s t : State} {c : Instr}

/-! ## Resets, start-up and the maintenance port -/

theorem checkHeader_goes (header : List Byte) (hp : s.loader.phase = .reading) :
    s.Goes c (s.quiet.checkHeader header) := by
  unfold State.checkHeader
  split
  · exact .same ((SameWork.quiet s).trans ⟨fun _ => rfl, rfl, rfl, rfl, rfl, rfl⟩)
  · exact .loadFailed _ (.quiet s) hp

theorem execHeaderCheck_goes (header : List Byte) (h : execHeaderCheck header s = .next t) : s.Goes c t := by
  unfold execHeaderCheck at h
  obtain rfl := Host.Outcome.next.inj h
  split
  · rename_i ha
    simp only [State.headerArrives, Bool.and_eq_true, beq_iff_eq] at ha
    exact checkHeader_goes header ha.1.1
  · exact .same (.quiet s)

theorem execImageCheck_goes (rest : List Byte) (order : List Chan) (h : execImageCheck rest order s = .next t) :
    s.Goes c t := by
  unfold execImageCheck at h
  obtain rfl := Host.Outcome.next.inj h
  split
  · rename_i ha
    simp only [State.imageArrives, Bool.and_eq_true, beq_iff_eq] at ha
    unfold State.checkImage
    split
    · exact .loadGood _ order (.quiet s) ha.1.1
    · exact .loadFailed _ (.quiet s) ha.1.1
  · exact .same (.quiet s)

theorem reply_goes (r : List Byte) : s.Goes c (s.quiet.setReply r) := .same ((SameWork.quiet s).trans (.setReply _ r))

/-- A maintenance command goes as its effect does, or is answered STARTING. -/
theorem maintenance_goes {effect : State → State} (h : s.loader.phase = .finished → s.Goes c (effect s.quiet)) :
    s.Goes c (s.quiet.maintenance effect) := by
  unfold State.maintenance
  split
  · rename_i hf
    exact h hf
  · exact reply_goes _

theorem channelArgument_eq_some {arg : Byte} {ch : Chan} (h : channelArgument arg = some ch) : arg.toNat = ch.val := by
  unfold channelArgument at h
  split at h
  · rw [← Option.some.inj h]
  · cases h

theorem channelCommand_goes {arg : Byte} {effect : State → Chan → State}
    (h : ∀ ch : Chan, s.loader.phase = .finished → arg.toNat = ch.val → s.Goes c (effect s.quiet ch)) :
    s.Goes c (s.quiet.channelCommand arg effect) := by
  refine maintenance_goes fun hf => ?_
  split
  · rename_i hch
    exact h _ hf (channelArgument_eq_some hch)
  · exact reply_goes _

/-- A command whose step is a known state goes to it. -/
theorem goes_of_next {x : State} (hx : s.Goes c x)
    (h : Host.Outcome.next (φ := Fault) (ρ := Refusal) x = .next t) : s.Goes c t := by
  rw [← Host.Outcome.next.inj h]
  exact hx

theorem execGetStatus_goes (arg : Byte) (h : execGetStatus arg s = .next t) : s.Goes c t :=
  goes_of_next (maintenance_goes fun _ => reply_goes _) h

theorem execGetResult_goes (arg : Byte) (h : execGetResult arg s = .next t) : s.Goes c t :=
  goes_of_next (channelCommand_goes fun _ _ _ => reply_goes _) h

theorem execGetTally_goes (arg : Byte) (h : execGetTally arg s = .next t) : s.Goes c t :=
  goes_of_next (channelCommand_goes fun _ _ _ => reply_goes _) h

theorem execGetCounters_goes (arg : Byte) (h : execGetCounters arg s = .next t) : s.Goes c t :=
  goes_of_next (channelCommand_goes fun _ _ _ => reply_goes _) h

theorem execGetEntry_goes (arg : Byte) (h : execGetEntry arg s = .next t) : s.Goes c t := by
  refine goes_of_next (maintenance_goes fun _ => ?_) h
  split <;> exact reply_goes _

theorem execGetReserve_goes (arg : Byte) (h : execGetReserve arg s = .next t) : s.Goes c t := by
  refine goes_of_next (maintenance_goes fun _ => ?_) h
  split <;> exact reply_goes _

theorem takeRetest_goes {ch : Chan} (hc : endsService ch c = true) (hf : s.loader.phase = .finished)
    (hs : s.chan[ch.val].control.state = .service ∨ s.chan[ch.val].control.state = .failed) :
    s.Goes c (s.quiet.takeRetest ch) :=
  .retest ch hc ((SameWork.quiet s).trans (.setReply _ _)) hf hs

theorem execRetest_goes (arg : Byte) (hc : ∀ ch : Chan, arg.toNat = ch.val → endsService ch c = true)
    (h : execRetest arg s = .next t) : s.Goes c t := by
  refine goes_of_next (channelCommand_goes fun ch hf ha => ?_) h
  unfold State.retest
  simp only [Fin.getElem_fin, State.quiet_control]
  split
  · rename_i hs
    split
    · exact reply_goes _
    · exact takeRetest_goes (hc ch ha) hf (.inl hs)
  · rename_i hs
    exact takeRetest_goes (hc ch ha) hf (.inr hs)
  all_goals exact reply_goes _

theorem execAbort_goes (arg : Byte) (h : execAbort arg s = .next t) : s.Goes c t := by
  refine goes_of_next (channelCommand_goes fun ch _ _ => ?_) h
  unfold State.abort
  simp only [Fin.getElem_fin, State.quiet_control]
  split
  · rename_i hs
    exact .abort ch (.quiet s) hs
  · exact reply_goes _

theorem execAcknowledge_goes (arg : Byte) (h : execAcknowledge arg s = .next t) : s.Goes c t := by
  refine goes_of_next (maintenance_goes fun _ => .same ?_) h
  exact ((SameWork.quiet s).trans (.setReply _ _)).trans (.mapChan _ _ fun _ => rfl)

theorem execUnknownCommand_goes (code arg : Byte)
    (h : execUnknownCommand code arg s = .next t) : s.Goes (.unknownCommand code arg) t := by
  unfold execUnknownCommand at h
  split at h
  · exact execGetStatus_goes arg h
  split at h
  · exact execGetResult_goes arg h
  split at h
  · exact execGetEntry_goes arg h
  split at h
  · exact execGetTally_goes arg h
  split at h
  · exact execGetReserve_goes arg h
  split at h
  · exact execGetCounters_goes arg h
  split at h
  · rename_i hcode
    refine execRetest_goes arg (fun ch ha => ?_) h
    simp [endsService, hcode, ha]
  split at h
  · exact execAbort_goes arg h
  split at h
  · exact execAcknowledge_goes arg h
  · exact goes_of_next (maintenance_goes fun _ => reply_goes _) h

/-! ## The channel path -/

theorem drive_sameWork (s : State) (ch : Chan) (cmd : DeviceCommand) : s.SameWork (s.drive ch cmd) := by
  rw [State.drive_eq]
  exact .onChan s ch _ rfl

theorem deliver_sameWork (s : State) (ch : Chan) (w : Word) : s.SameWork (s.deliver ch w) := by
  rw [State.deliver_eq]
  exact .onChan s ch _ rfl

theorem countAnomaly_sameWork (s : State) (ch : Chan) (f : Anomalies → Anomalies) : s.SameWork (s.countAnomaly ch f) := by
  unfold State.countAnomaly
  rw [State.onPath_eq]
  exact .onChan s ch _ rfl

theorem track_sameWork (s : State) (ch : Chan) (bank : Bank) (x : Option OpenRow) : s.SameWork (s.track ch bank x) := by
  unfold State.track
  rw [State.onPath_eq]
  exact .onChan s ch _ rfl

theorem trackClosed_sameWork (s : State) (ch : Chan) : s.SameWork (s.trackClosed ch) := by
  unfold State.trackClosed
  rw [State.onPath_eq]
  exact .onChan s ch _ rfl

/-- A command other than READ changes no work: its effect does not, and the count of a dropped one does not. -/
theorem served_goes {ch : Chan} {effect : State → State} (h : s.quiet.SameWork (effect s.quiet)) :
    s.Goes c (s.quiet.served ch effect) := by
  unfold State.served
  split
  · exact .same ((SameWork.quiet s).trans h)
  · exact .same ((SameWork.quiet s).trans (countAnomaly_sameWork _ ch _))

theorem servedOpenRow_sameWork (s : State) (ch : Chan) (bank : Bank) (row : Row) :
    s.SameWork (s.servedOpenRow ch bank row) := by
  unfold State.servedOpenRow
  dsimp only
  split
  · split
    · exact (drive_sameWork s ch _).trans (track_sameWork _ ch _ _)
    · exact (drive_sameWork s ch _).trans (track_sameWork _ ch _ _)
  · exact ((drive_sameWork s ch _).trans (track_sameWork _ ch _ _)).trans (countAnomaly_sameWork _ ch _)

theorem servedWrite_sameWork (s : State) (ch : Chan) (bank : Bank) (column : Column) (word : Word) (lanes : Lanes) :
    s.SameWork (s.servedWrite ch bank column word lanes) := by
  unfold State.servedWrite
  dsimp only
  split
  · exact (drive_sameWork s ch _).trans (countAnomaly_sameWork _ ch _)
  · split
    · exact (drive_sameWork s ch _).trans (countAnomaly_sameWork _ ch _)
    · exact drive_sameWork s ch _
  · split
    · exact (drive_sameWork s ch _).trans (.setLine _ _ _)
    · exact drive_sameWork s ch _

theorem servedRead_goes (ch : Chan) (bank : Bank) (column : Column) : s.Goes c (s.quiet.servedRead ch bank column) := by
  unfold State.servedRead
  dsimp only [Fin.getElem_fin]
  split
  · exact .same ((SameWork.quiet s).trans (countAnomaly_sameWork _ ch _))
  · rename_i hl
    simp only [State.quiet_path, Config.returnDepth, Nat.not_le] at hl
    have hitem : s.quiet.readItem ch (decodeBank s.quiet.chan[ch.val].servedGeometry bank)
        (decodeColumn s.quiet.chan[ch.val].servedGeometry column) ≠ .poison := by
      unfold State.readItem
      split
      · nofun
      · nofun
      · split <;> nofun
    split
    · have e : ∀ (x : State) (item : ReturnItem) (f : Anomalies → Anomalies),
          (x.appendReturn ch item).countAnomaly ch f = (x.countAnomaly ch f).appendReturn ch item := by
        intro x item f
        simp only [State.appendReturn, State.countAnomaly, State.onPath_eq, State.onChan_onChan]
      rw [e]
      exact .append ch _ (((SameWork.quiet s).trans (drive_sameWork _ ch _)).trans (countAnomaly_sameWork _ ch _)) hl
        fun _ => hitem
    · exact .append ch _ ((SameWork.quiet s).trans (drive_sameWork _ ch _)) hl fun _ => hitem

theorem heldOffRead_goes (ch : Chan) : s.Goes c (s.quiet.heldOffRead ch) := by
  have h : s.SameWork (s.quiet.heldOff ch) := (SameWork.quiet s).trans (countAnomaly_sameWork _ ch _)
  unfold State.heldOffRead
  simp only [Fin.getElem_fin, State.quiet_path]
  split
  · exact .same (h.trans (deliver_sameWork _ ch _))
  · rename_i hne
    split
    · exact .same (h.trans (countAnomaly_sameWork _ ch _))
    · rename_i hl
      exact .append ch .poison h (Nat.not_le.1 hl) fun he => absurd he hne

theorem pathReturn_goes {ch : Chan} {item : ReturnItem} {rest : List ReturnItem} {word : Word}
    (hr : oldestWaiting s.chan[ch.val].path.returns = some (item, rest)) :
    s.Goes c (s.quiet.pathReturn ch item rest word) := by
  unfold State.pathReturn
  rw [State.flushPoison_eq]
  have e : ∀ (x : State) (f : List Word → List Word) (l : List ReturnItem), x.onChan ch (fun c => { c with
        pins := { c.pins with toController := f c.pins.toController }, path := { c.path with returns := l } })
      = (x.onPins ch fun p => { p with toController := f p.toController }).onPath ch fun p => { p with returns := l } := by
    intro x f l
    simp only [State.onPath_eq, State.onPins_eq, State.onChan_onChan]
  rw [e _ fun w => w ++ (rest.takeWhile fun x => x == .poison).map fun _ => poisonWord]
  refine .answer ch item rest (((SameWork.quiet s).trans (deliver_sameWork _ ch (item.answer word))).trans ?_) hr
  rw [State.onPins_eq]
  exact .onChan _ ch _ rfl

theorem engineReturn_goes {ch : Chan} {o : OutstandingRead} (word : Word)
    (ho : s.chan[ch.val].engine.outstanding = some o) : s.Goes c (s.quiet.engineReturn ch o word).choose := by
  cases hu : o.uncompared
  · exact .compare ch o word (.quiet s) ho hu
  · have e : s.quiet.engineReturn ch o word
        = s.quiet.onEngine ch fun e => { e with outstanding := none, awaitingReturn := false } := by
      simp [State.engineReturn, hu]
    rw [e]
    exact .discard ch o (.quiet s) ho hu

theorem readReturn_goes (ch : Chan) (word : Word) : s.Goes c (s.quiet.readReturn ch word) := by
  unfold State.readReturn
  simp only [Fin.getElem_fin, State.quiet_path, State.quiet_engine]
  split
  · rename_i hr
    exact pathReturn_goes hr
  · split
    · rename_i ho
      exact engineReturn_goes word ho
    · exact .same (.quiet s)

/-! ## The engine and the timers -/

theorem openTarget_serviceOwed_sameWork (s : State) (ch : Chan) (a : Address) :
    s.SameWork ((s.serviceOwed ch).openTarget ch a) := by
  rw [State.openTarget_serviceOwed]
  exact .onChan s ch _ rfl

theorem issueWrite_sameWork (s : State) (ch : Chan) (o : Op) (a : Address) : s.SameWork (s.issueWrite ch o a) := by
  unfold State.issueWrite
  dsimp only
  have h : s.SameWork ((s.drive ch (.write a.bank a.column (s.expectedWord ch o a) allLanes)).onEngine ch fun e =>
      { e with counters := { e.counters with writes := Counter.inc e.counters.writes } }) :=
    (drive_sameWork s ch _).trans (.onChan _ ch _ rfl)
  split
  · exact h.trans (.setLine _ _ _)
  · exact h

theorem readyOp_eq_some {ch : Chan} {x : Nat × Op × Address} (h : s.readyOp ch = some x) :
    s.chan[ch.val].engine.state = .sweep ∧ s.chan[ch.val].engine.reading = false := by
  unfold State.readyOp at h
  split at h
  · rename_i hs
    exact hs
  · cases h

theorem execEngineWrite_goes (ch : Chan) (h : execEngineWrite ch s = .next t) : s.Goes c t := by
  refine goes_of_next ?_ h
  split
  · rename_i hready
    obtain ⟨hs, hr⟩ := readyOp_eq_some hready
    split
    · exact .same (.quiet s)
    · exact .write ch (((SameWork.quiet s).trans (openTarget_serviceOwed_sameWork _ ch _)).trans
        (issueWrite_sameWork _ ch _ _)) hs hr
  · exact .same (.quiet s)

theorem issueRead_eq (s : State) (ch : Chan) (element : Nat) (o : Op) (a : Address) :
    ∃ (u : State) (x : OutstandingRead), s.SameWork u
      ∧ s.issueRead ch element o a = u.onEngine ch fun e => { e with outstanding := some x } := by
  refine ⟨(s.drive ch (.read a.bank a.column)).onEngine ch fun e =>
    { e with awaitingReturn := false, counters := { e.counters with reads := Counter.inc e.counters.reads } },
    { address := a, op := o, element := element, pass := s.chan[ch.val].engine.pass
      position := s.chan[ch.val].engine.generator.position, captured := (s.engineSpare ch a).map s.spareWord
      uncompared := false }, (drive_sameWork s ch _).trans (.onChan _ ch _ rfl), ?_⟩
  unfold State.issueRead
  simp only [State.onEngine_eq, State.drive_eq, State.onChan_onChan]
  exact State.onChan_congr _ _ rfl

theorem doRead_goes {ch : Chan} (element : Nat) (o : Op) (a : Address) (hs : s.chan[ch.val].engine.state = .sweep)
    (hr : s.chan[ch.val].engine.reading = false) : s.Goes c (s.quiet.doRead ch element o a) := by
  unfold State.doRead
  have h := (SameWork.quiet s).trans (openTarget_serviceOwed_sameWork s.quiet ch a)
  generalize (s.quiet.serviceOwed ch).openTarget ch a = u at h
  dsimp only [Fin.getElem_fin]
  split
  · exact .same (h.trans (.onChan _ ch _ rfl))
  · split
    · exact .stall ch h hs hr
    · rename_i hq
      obtain ⟨v, x, hv, e⟩ := u.issueRead_eq ch element o a
      rw [e]
      refine .issue ch x (h.trans hv) hs hr ?_
      rw [← h.records ch]
      exact Nat.not_le.1 hq

theorem execEngineRead_goes (ch : Chan) (h : execEngineRead ch s = .next t) : s.Goes c t := by
  refine goes_of_next ?_ h
  split
  · rename_i hready
    obtain ⟨hs, hr⟩ := readyOp_eq_some hready
    split
    · exact doRead_goes _ _ _ hs hr
    · exact .same (.quiet s)
  · exact .same (.quiet s)

theorem serviceRefresh_sameWork (s : State) (ch : Chan) : s.SameWork (s.serviceRefresh ch) := by
  unfold State.serviceRefresh State.engineCloseAll State.issueRefresh
  exact (((drive_sameWork s ch _).trans (.onChan _ ch _ rfl)).trans (drive_sameWork _ ch _)).trans (.onChan _ ch _ rfl)

theorem recover_sameWork (s : State) (ch : Chan) (refresh : HoldRefresh) : s.SameWork (s.recover ch refresh) := by
  cases refresh with
  | keep => exact .refl s
  | stop =>
    exact SameWork.trans (t := s.onEngine ch fun e => { e with refreshOwed := true }) (.onChan s ch _ rfl)
      (serviceRefresh_sameWork _ ch)

theorem holdExpiry_goes (ch : Chan) : s.Goes c (s.quiet.holdExpiry ch) := by
  unfold State.holdExpiry
  simp only [Fin.getElem_fin, State.quiet_engine, State.quiet_timers]
  split
  · rename_i hs
    split
    · exact .holdEnds ch _ (((SameWork.quiet s).trans (.onChan _ ch _ rfl)).trans (recover_sameWork _ ch _)) hs.1
    all_goals exact .same (.quiet s)
  · exact .same (.quiet s)

theorem refreshDue_sameWork (s : State) (ch : Chan) : s.SameWork (s.refreshDue ch) := by
  unfold State.refreshDue
  split
  · exact serviceRefresh_sameWork s ch
  · exact serviceRefresh_sameWork s ch
  · exact serviceRefresh_sameWork s ch
  · exact serviceRefresh_sameWork s ch
  · split
    · exact (serviceRefresh_sameWork s ch).trans (.onChan _ ch _ rfl)
    · exact .refl s
  · exact .refl s
  · exact .refl s

theorem refreshExpiry_sameWork (s : State) (ch : Chan) : s.SameWork (s.refreshExpiry ch) := by
  unfold State.refreshExpiry
  split
  · refine SameWork.trans ?_ (refreshDue_sameWork _ ch)
    exact SameWork.trans (t := s.onTimers ch fun t => { t with refreshElapsed := 0 }) (.onChan s ch _ rfl)
      (.onChan _ ch _ rfl)
  · exact .refl s

theorem execPrepareRun_goes (ch : Chan) (h : execPrepareRun ch s = .next t) : s.Goes c t := by
  refine goes_of_next ?_ h
  unfold State.prepareIfReady
  simp only [Fin.getElem_fin, State.quiet_control, State.quiet_path]
  split
  · rename_i hs
    exact .prepare ch (.quiet s) hs.1
  · exact .same (.quiet s)

/-! ## The allocator -/

theorem completeService_goes : s.Goes c s.quiet.completeService := by
  unfold State.completeService
  rw [State.quiet_allocator]
  split
  · rename_i hi
    exact .service _ _ (.quiet s) hi
  · exact .same (.quiet s)
  · exact .same (.quiet s)

theorem completeAnalysis_goes : s.Goes c s.quiet.completeAnalysis := by
  unfold State.completeAnalysis
  rw [State.quiet_allocator]
  split
  · rename_i hi
    exact .analysis _ _ (.quiet s) hi
  · exact .same (.quiet s)
  · exact .same (.quiet s)

/-! ## Every command, and every step -/

/-- Every command goes in one of the ways of `Goes`. -/
theorem exec_goes (h : exec c s = .next t) : s.Goes c t := by
  cases c with
  | powerOnReset => exact goes_of_next (.powerOn rfl) h
  | warmRestart => exact goes_of_next (.warm rfl) h
  | headerCheck header => exact execHeaderCheck_goes header h
  | imageCheck rest order => exact execImageCheck_goes rest order h
  | getStatus arg => exact execGetStatus_goes arg h
  | getResult arg => exact execGetResult_goes arg h
  | getEntry arg => exact execGetEntry_goes arg h
  | getTally arg => exact execGetTally_goes arg h
  | getReserve arg => exact execGetReserve_goes arg h
  | getCounters arg => exact execGetCounters_goes arg h
  | retest arg => exact execRetest_goes arg (fun ch ha => by simp [endsService, ha]) h
  | abort arg => exact execAbort_goes arg h
  | acknowledge arg => exact execAcknowledge_goes arg h
  | unknownCommand code arg => exact execUnknownCommand_goes code arg h
  | openRow ch bank row => exact goes_of_next (served_goes (servedOpenRow_sameWork _ ch bank row)) h
  | read ch bank column =>
    refine goes_of_next ?_ h
    split
    · exact servedRead_goes ch bank column
    · exact heldOffRead_goes ch
  | write ch bank column word lanes =>
    exact goes_of_next (served_goes (servedWrite_sameWork _ ch bank column word lanes)) h
  | closeBank ch bank =>
    exact goes_of_next (served_goes ((drive_sameWork _ ch _).trans (track_sameWork _ ch _ _))) h
  | closeAll ch => exact goes_of_next (served_goes ((drive_sameWork _ ch _).trans (trackClosed_sameWork _ ch))) h
  | refresh ch => exact goes_of_next (served_goes ((drive_sameWork _ ch _).trans (trackClosed_sameWork _ ch))) h
  | modeSet ch register value => exact goes_of_next (served_goes (drive_sameWork _ ch _)) h
  | deviceReadReturn ch word => exact goes_of_next (readReturn_goes ch word) h
  | prepareRun ch => exact execPrepareRun_goes ch h
  | engineWrite ch => exact execEngineWrite_goes ch h
  | engineRead ch => exact execEngineRead_goes ch h
  | holdTimerExpiry ch => exact goes_of_next (holdExpiry_goes ch) h
  | refreshTimerExpiry ch =>
    exact goes_of_next (.same ((SameWork.quiet s).trans (refreshExpiry_sameWork _ ch))) h
  | serviceCompletion => exact goes_of_next completeService_goes h
  | analysisCompletion => exact goes_of_next completeAnalysis_goes h
  | runClockMillisecond ch => exact goes_of_next (.same ((SameWork.quiet s).trans (.onChan _ ch _ rfl))) h

/-- A law that depends on the work alone and that every way of `Goes` keeps is kept by every step. -/
theorem step_keeps {P : State → Prop} (hcongr : ∀ {s t : State}, s.SameWork t → P s → P t)
    (h : ∀ {c : Instr} {s t : State}, s.Goes c t → P s → P t) (s t : State) (hs : P s) (ht : step s = .next t) :
    P t := by
  unfold step at ht
  split at ht
  · obtain rfl := Host.Outcome.next.inj ht
    exact hcongr ((SameWork.quiet s).trans (.mapChan _ _ fun _ => rfl)) hs
  · exact h (exec_goes ht) (hcongr (.setPending s _) hs)

end State

end Sys2Proof.Machine

/-! PROOFS. What the services of the allocator, an abort and the load leave alone. -/

namespace Sys2Proof.Machine

/-! ## The services of the allocator (R128 to R139) -/

/-- What a service leaves as it changes a channel's allocation, the table and the Spare Store. -/
structure State.ServiceFrame (s t : State) (ch : Chan) : Prop where
  rest : s.SameRest t
  same : t.chan[ch.val] = { s.chan[ch.val] with allocation := t.chan[ch.val].allocation }
  request : t.chan[ch.val].allocation.request = s.chan[ch.val].allocation.request
  other : ∀ c : Chan, ch ≠ c → t.chan[c.val] = s.chan[c.val]

namespace State.ServiceFrame

variable {s t u : State} {ch : Chan}

theorem refl (s : State) (ch : Chan) : s.ServiceFrame s ch :=
  ⟨⟨rfl, rfl, rfl, rfl, rfl, rfl, rfl⟩, rfl, rfl, fun _ _ => rfl⟩

theorem trans (h : s.ServiceFrame t ch) (h' : t.ServiceFrame u ch) : s.ServiceFrame u ch :=
  ⟨h.rest.trans h'.rest, by rw [h'.same, h.same], h'.request.trans h.request,
    fun c hc => (h'.other c hc).trans (h.other c hc)⟩

theorem onAllocation (s : State) (ch : Chan) (f : ChannelAllocation → ChannelAllocation)
    (h : (f s.chan[ch.val].allocation).request = s.chan[ch.val].allocation.request) :
    s.ServiceFrame (s.onAllocation ch f) ch :=
  ⟨⟨rfl, rfl, rfl, rfl, rfl, rfl, rfl⟩, by rw [State.onAllocation_same], by rw [State.onAllocation_same]; exact h,
    fun c hc => State.onAllocation_other s hc f⟩

theorem onAllocCounters (s : State) (ch : Chan) (f : AllocationCounters → AllocationCounters) :
    s.ServiceFrame (s.onAllocCounters ch f) ch := by
  unfold State.onAllocCounters
  exact onAllocation s ch _ rfl

theorem setReserveRow (s : State) (ch : Chan) (bank : Bank) (n : Nat) (st : ReserveState) :
    s.ServiceFrame (s.setReserveRow ch bank n st) ch := by
  unfold State.setReserveRow
  exact onAllocation s ch _ rfl

theorem of_chan (hr : s.SameRest t) (hc : t.chan = s.chan) : s.ServiceFrame t ch :=
  ⟨hr, by rw [hc], by rw [hc], fun c _ => by rw [hc]⟩

theorem releaseWhere (s : State) (ch : Chan) (p : Repair → Bool) : s.ServiceFrame (s.releaseWhere p) ch :=
  of_chan (by constructor <;> simp) (by simp)

theorem create {r : Repair} (ch : Chan) (h : s.create r = some t) : s.ServiceFrame t ch := by
  obtain ⟨hchan, hstore, harbiter, hallocator, hloader, hreply, hspi, hpending⟩ := State.create_frame h
  exact of_chan ⟨hstore, harbiter, hallocator, hloader, hreply, hspi, hpending⟩ hchan

/-- Every channel keeps all but its allocation. -/
theorem chan (h : s.ServiceFrame t ch) (c : Chan) :
    ∃ a : ChannelAllocation, a.request = s.chan[c.val].allocation.request
      ∧ t.chan[c.val] = { s.chan[c.val] with allocation := a } := by
  by_cases e : ch = c
  · subst e
    exact ⟨_, h.request, h.same⟩
  · exact ⟨_, rfl, h.other c e⟩

end State.ServiceFrame

/-- What the abort of an engine leaves of its channel, but for the life cycle that goes on. -/
def Channel.aborted (c : Channel) : Channel :=
  { c with
    pins := { c.pins with toDevice := c.pins.toDevice ++ if c.engine.state.active then [.closeAll] else [] }
    engine := { c.engine with
      state := .idle, banks := allClosed, refreshOwed := false, awaitingReturn := false
      generator := AddressGenerator.empty, passSeed := none
      outstanding := if c.engine.state = .sweep then c.engine.outstanding.map fun o => { o with uncompared := true }
        else c.engine.outstanding }
    timers := { (c.timers.stopRefresh) with hold := none } }

namespace State

theorem countRaw_frame (s : State) (f : FailRecord) (n : Nat) : s.ServiceFrame (s.countRaw f n) f.channel := by
  unfold State.countRaw
  exact .onAllocCounters s _ _

theorem spoilReserve_frame (s : State) (f : FailRecord) (n : Nat) : s.ServiceFrame (s.spoilReserve f n) f.channel :=
  (ServiceFrame.setReserveRow s _ _ _ _).trans (.onAllocCounters _ _ _)

theorem reserveRecord_frame (s : State) (f : FailRecord) : s.ServiceFrame (s.reserveRecord f) f.channel := by
  unfold State.reserveRecord
  have h := countRaw_frame s f 0
  dsimp only
  split
  · exact h.trans (spoilReserve_frame _ f _)
  · exact h.trans (spoilReserve_frame _ f _)
  · exact h
  · exact ((h.trans (.releaseWhere _ _ _)).trans (spoilReserve_frame _ f _)).trans (.onAllocCounters _ _ _)
  · exact h

theorem tallyFail_frame (s : State) (f : FailRecord) : s.ServiceFrame (s.tallyFail f) f.channel := by
  refine .onAllocation s _ _ ?_
  split <;> rfl

theorem newFailRecord_frame (s : State) (f : FailRecord) : s.ServiceFrame (s.newFailRecord f) f.channel := by
  unfold State.newFailRecord
  refine ServiceFrame.trans ?_ (countRaw_frame _ f _)
  refine (tallyFail_frame s f).trans ?_
  split
  · rename_i hc
    exact (ServiceFrame.create _ hc).trans (.onAllocation _ _ _ rfl)
  · exact .onAllocation _ _ _ rfl

theorem serveRecord_frame (s : State) (f : FailRecord) (kind : RecordClass) :
    s.ServiceFrame (s.serveRecord f kind) f.channel := by
  cases kind with
  | verify =>
    rw [State.serveRecord_verify]
    exact .onAllocation s _ _ rfl
  | reserveRow => exact reserveRecord_frame s f
  | covered => exact countRaw_frame s f _
  | newFail => exact newFailRecord_frame s f

theorem remapMarked_frame (ch : Chan) (s : State) (t : TallyEntry) : s.ServiceFrame (State.remapMarked ch s t) ch := by
  unfold State.remapMarked
  split
  · exact .onAllocCounters s _ _
  · dsimp only
    split
    · rename_i hc
      exact ((ServiceFrame.releaseWhere s ch _).trans (.create ch hc)).trans (.setReserveRow _ _ _ _ _)
    · exact .releaseWhere s ch _

theorem foldl_remapMarked_frame (ch : Chan) (l : List TallyEntry) (s : State) :
    s.ServiceFrame (l.foldl (State.remapMarked ch) s) ch := by
  induction l generalizing s with
  | nil => exact .refl s ch
  | cons t l ih => exact (remapMarked_frame ch s t).trans (ih _)

theorem promote_frame (s : State) (ch : Chan) (flag : Bool) : s.ServiceFrame (s.promote ch flag) ch := by
  unfold State.promote
  split
  · exact .onAllocation s _ _ rfl
  · exact .refl s ch

theorem analyse_frame (s : State) (ch : Chan) (flag : Bool) : s.ServiceFrame (s.analyse ch flag) ch :=
  (promote_frame s ch flag).trans (foldl_remapMarked_frame ch _ _)

/-! ## An abort (R100, R153) -/

theorem startSweep_chan (s : State) (ch c : Chan) : ∃ (state : EngineState) (g : AddressGenerator),
    (s.startSweep ch).chan[c.val] =
      { s.chan[c.val] with engine := { s.chan[c.val].engine with state := state, generator := g } } := by
  unfold State.startSweep
  dsimp only
  split
  · rw [State.onEngine_chan]
    split
    · rename_i e
      subst e
      exact ⟨_, _, rfl⟩
    · exact ⟨_, _, rfl⟩
  all_goals exact ⟨_, _, rfl⟩

/-- A release gives at most a sweep to a waiting engine. -/
theorem releaseToken_chan (s : State) (ch c : Chan) : ∃ (state : EngineState) (g : AddressGenerator),
    (s.releaseToken ch).chan[c.val] =
      { s.chan[c.val] with engine := { s.chan[c.val].engine with state := state, generator := g } } := by
  unfold State.releaseToken
  split
  · dsimp only
    split
    · exact ⟨_, _, rfl⟩
    · exact startSweep_chan _ _ c
  · exact ⟨_, _, rfl⟩

theorem startSweep_rest (s : State) (ch : Chan) : (s.startSweep ch).table = s.table ∧ s.SameRest (s.startSweep ch) := by
  unfold State.startSweep
  dsimp only
  split <;> exact ⟨rfl, rfl, rfl, rfl, rfl, rfl, rfl, rfl⟩

theorem abortEngine_same (s : State) (ch : Chan) : (s.abortEngine ch).chan[ch.val] = s.chan[ch.val].aborted := by
  unfold State.abortEngine
  rw [State.onChan_same]
  unfold State.abortByState Channel.aborted
  simp only [Fin.getElem_fin]
  cases hs : s.chan[ch.val].engine.state <;>
    simp only [EngineState.active, reduceCtorEq, if_false, if_true, Bool.false_eq_true, List.append_nil]
  · simp only [State.drive_eq, State.onChan_same, State.setArbiter_chan]
  · obtain ⟨state, g, e⟩ := ((s.onEngine ch Engine.markUncompared).drive ch .closeAll).releaseToken_chan ch ch
    rw [e]
    simp only [State.drive_eq, State.onChan_same, State.onEngine_same, Engine.markUncompared]
  · obtain ⟨state, g, e⟩ := (s.drive ch .closeAll).releaseToken_chan ch ch
    rw [e]
    simp only [State.drive_eq, State.onChan_same]
  · simp only [State.drive_eq, State.onChan_same]
  · simp only [State.drive_eq, State.onChan_same]

theorem abortEngine_other (s : State) {ch c : Chan} (h : ch ≠ c) : ∃ (state : EngineState) (g : AddressGenerator),
    (s.abortEngine ch).chan[c.val] =
      { s.chan[c.val] with engine := { s.chan[c.val].engine with state := state, generator := g } } := by
  unfold State.abortEngine
  rw [State.onChan_other _ h]
  unfold State.abortByState
  split
  · exact ⟨_, _, by rw [State.drive_eq, State.onChan_other _ h, State.setArbiter_chan]⟩
  · obtain ⟨state, g, e⟩ := ((s.onEngine ch Engine.markUncompared).drive ch .closeAll).releaseToken_chan ch c
    exact ⟨state, g, by rw [e, State.drive_eq, State.onChan_other _ h, State.onEngine_other _ h]⟩
  · obtain ⟨state, g, e⟩ := (s.drive ch .closeAll).releaseToken_chan ch c
    exact ⟨state, g, by rw [e, State.drive_eq, State.onChan_other _ h]⟩
  · exact ⟨_, _, by rw [State.drive_eq, State.onChan_other _ h]⟩
  · exact ⟨_, _, by rw [State.drive_eq, State.onChan_other _ h]⟩
  · exact ⟨_, _, rfl⟩
  · exact ⟨_, _, rfl⟩

/-- An engine's abort changes the channels and the tokens alone. -/
theorem abortEngine_rest (s : State) (ch : Chan) : (s.abortEngine ch).table = s.table
    ∧ (s.abortEngine ch).spare = s.spare ∧ (s.abortEngine ch).store = s.store ∧ (s.abortEngine ch).allocator = s.allocator
    ∧ (s.abortEngine ch).loader = s.loader ∧ (s.abortEngine ch).reply = s.reply ∧ (s.abortEngine ch).spiOut = s.spiOut
    ∧ (s.abortEngine ch).pending = s.pending := by
  have release (x : State) : (x.releaseToken ch).table = x.table ∧ (x.releaseToken ch).spare = x.spare
      ∧ (x.releaseToken ch).store = x.store ∧ (x.releaseToken ch).allocator = x.allocator
      ∧ (x.releaseToken ch).loader = x.loader ∧ (x.releaseToken ch).reply = x.reply
      ∧ (x.releaseToken ch).spiOut = x.spiOut ∧ (x.releaseToken ch).pending = x.pending := by
    have h := x.releaseToken_frame ch
    refine ⟨?_, h.spare, h.store, h.allocator, h.loader, h.reply, h.spiOut, h.pending⟩
    unfold State.releaseToken
    split
    · dsimp only
      split
      · rfl
      · exact (startSweep_rest _ _).1
    · rfl
  unfold State.abortEngine State.abortByState
  split
  · exact ⟨rfl, rfl, rfl, rfl, rfl, rfl, rfl, rfl⟩
  · exact release _
  · exact release _
  all_goals exact ⟨rfl, rfl, rfl, rfl, rfl, rfl, rfl, rfl⟩

end State

/-- The entry gives up a reserve row if the channel's FOUND entries are released (R16). -/
def Entry.givesUp (e : Entry) (ch : Chan) (bank : Bank) (reserve : Nat) : Bool :=
  match e.repair? with
  | some r => r.foundBy ch && r.bank == bank && r.kind == .remap reserve
  | none => false

/-- The return of one entry's reserve row sets at most that row (R16). -/
theorem State.returnReserve_spec (ch : Chan) (s : State) (e : Entry) : ∃ X : List (List ReserveState),
    State.returnReserve ch s e = s.onAllocation ch (fun a => { a with reserve := X })
    ∧ ∀ (bank : Bank) (j : Nat), reserveAt X bank j =
      if e.givesUp ch bank j = true ∧ reserveAt s.chan[ch.val].allocation.reserve bank j = some .inUse
      then some .good else reserveAt s.chan[ch.val].allocation.reserve bank j := by
  have keep : s = s.onAllocation ch fun a => { a with reserve := s.chan[ch.val].allocation.reserve } :=
    (State.onChan_id s ch _ rfl).symm
  have stays (h : ∀ bank j, ¬ (e.givesUp ch bank j = true
      ∧ reserveAt s.chan[ch.val].allocation.reserve bank j = some .inUse)) (hs : State.returnReserve ch s e = s) :
      ∃ X : List (List ReserveState), State.returnReserve ch s e = s.onAllocation ch (fun a => { a with reserve := X })
        ∧ ∀ (bank : Bank) (j : Nat), reserveAt X bank j =
          if e.givesUp ch bank j = true ∧ reserveAt s.chan[ch.val].allocation.reserve bank j = some .inUse
          then some .good else reserveAt s.chan[ch.val].allocation.reserve bank j :=
    ⟨_, hs.trans keep, fun bank j => (if_neg (h bank j)).symm⟩
  cases hr : e.repair? with
  | none => exact stays (by simp [Entry.givesUp, hr]) (by simp [State.returnReserve, hr])
  | some r =>
    cases hk : r.kind with
    | substitute column scope => exact stays (by simp [Entry.givesUp, hr, hk]) (by simp [State.returnReserve, hr, hk])
    | remap n =>
      by_cases hc : (r.foundBy ch && reserveAt s.chan[ch.val].allocation.reserve r.bank n == some .inUse) = true
      · refine ⟨setReserve s.chan[ch.val].allocation.reserve r.bank n .good, ?_, fun bank j => ?_⟩
        · simp only [State.returnReserve, hr, hk, Fin.getElem_fin, if_pos hc, State.setReserveRow]
          exact State.onChan_congr _ _ rfl
        · simp only [Bool.and_eq_true, beq_iff_eq] at hc
          rw [reserveAt_setReserve _ _ _ _ _ _ (by rw [hc.2]; rfl)]
          simp only [Entry.givesUp, hr, hk, Bool.and_eq_true, beq_iff_eq, RepairKind.remap.injEq, hc.1, true_and]
          by_cases hb : bank = r.bank ∧ j = n
          · obtain ⟨rfl, rfl⟩ := hb
            rw [if_pos ⟨rfl, rfl⟩, if_pos ⟨⟨rfl, rfl⟩, hc.2⟩]
          · rw [if_neg hb, if_neg fun h => hb ⟨h.1.1.symm, h.1.2.symm⟩]
      · refine stays (fun bank j => ?_) ?_
        · rintro ⟨hg, hu⟩
          simp only [Entry.givesUp, hr, hk, Bool.and_eq_true, beq_iff_eq, RepairKind.remap.injEq] at hg
          obtain ⟨⟨hf, rfl⟩, rfl⟩ := hg
          exact hc (by simp [hf, hu])
        · simp only [State.returnReserve, hr, hk, Fin.getElem_fin, if_neg hc]

theorem State.foldl_returnReserve (ch : Chan) (l : List Entry) (s : State) : ∃ X : List (List ReserveState),
    l.foldl (State.returnReserve ch) s = s.onAllocation ch (fun a => { a with reserve := X })
    ∧ ∀ (bank : Bank) (j : Nat), reserveAt X bank j =
      if (∃ e ∈ l, e.givesUp ch bank j = true) ∧ reserveAt s.chan[ch.val].allocation.reserve bank j = some .inUse
      then some .good else reserveAt s.chan[ch.val].allocation.reserve bank j := by
  induction l generalizing s with
  | nil => exact ⟨_, (State.onChan_id s ch _ rfl).symm, fun bank j => by simp⟩
  | cons e l ih =>
    obtain ⟨X, hX, hx⟩ := State.returnReserve_spec ch s e
    obtain ⟨Y, hY, hy⟩ := ih (State.returnReserve ch s e)
    refine ⟨Y, ?_, fun bank j => ?_⟩
    · rw [List.foldl_cons, hY, hX]
      simp only [State.onAllocation_eq, State.onChan_onChan]
    · rw [hy, hX, State.onAllocation_same, hx]
      by_cases he : e.givesUp ch bank j = true <;>
        by_cases hu : reserveAt s.chan[ch.val].allocation.reserve bank j = some .inUse <;> simp [he, hu]

/-- The table from which an abort releases: all of the channel's entries are CARRIED first in PREPARING (R153). -/
def State.abortEntry (s : State) (ch : Chan) (i : Fin 64) : Entry :=
  if s.chan[ch.val].control.state = .preparing then s.table[i.val].reopen ch else s.table[i.val]

/-- The state of an abort before the allocator's next choice (R153). -/
structure State.Aborts (s a : State) (ch : Chan) : Prop where
  same : a.chan[ch.val] = { s.chan[ch.val].aborted with
    control := { s.chan[ch.val].control with state := .failed, outcome := .aborted }
    timers := { s.chan[ch.val].aborted.timers with clockRunning := false }
    queue := { s.chan[ch.val].queue with
      records := []
      counters := { s.chan[ch.val].queue.counters with
        discarded := Counter.add s.chan[ch.val].queue.counters.discarded s.chan[ch.val].queue.records.length } }
    allocation := { s.chan[ch.val].allocation with
      request := none, reserve := a.chan[ch.val].allocation.reserve }
    result := a.endResult ch }
  other : ∀ c : Chan, ch ≠ c → a.chan[c.val] = (s.abortEngine ch).chan[c.val]
  reserve : ∀ (bank : Bank) (j : Nat), reserveAt a.chan[ch.val].allocation.reserve bank j =
    if (∃ i : Fin 64, (s.abortEntry ch i).givesUp ch bank j = true)
        ∧ reserveAt s.chan[ch.val].allocation.reserve bank j = some .inUse
    then some .good else reserveAt s.chan[ch.val].allocation.reserve bank j
  entry : ∀ i : Fin 64, a.table[i.val] = match (s.abortEntry ch i).repair? with
    | some r => if r.foundBy ch then .free else s.abortEntry ch i
    | none => match s.table[i.val] with
      | .lent p => if s.borrowed ch p then .lent p else .free
      | .free => .free
      | .tentative r => .tentative r
      | .active r => .active r
  allocator : a.allocator = if s.allocator.item.serves ch || s.allocator.item.analyses ch
    then { s.allocator with item := .idle } else s.allocator
  arbiter : a.arbiter = (s.abortEngine ch).arbiter
  spare : a.spare = s.spare
  store : a.store = s.store
  loader : a.loader = s.loader
  reply : a.reply = [statusOk]
  spiOut : a.spiOut = s.spiOut
  pending : a.pending = s.pending

end Sys2Proof.Machine

namespace Sys2Proof.Machine

theorem State.startSweep_setReply (s : State) (ch : Chan) (r : List Byte) :
    (s.setReply r).startSweep ch = (s.startSweep ch).setReply r := by
  unfold State.startSweep
  dsimp only [State.setReply_chan, State.setReply_store]
  split <;> rfl

/-- A channel without a token releases none (R113). -/
theorem State.releaseToken_none (s : State) (ch : Chan) (h : s.arbiter.holders[ch] = false) : s.releaseToken ch = s := by
  simp only [State.releaseToken, h, Bool.false_eq_true, if_false]

/-- With no channel waiting the token is freed (R113). -/
theorem State.releaseToken_free (s : State) (ch : Chan) (h : s.arbiter.holders[ch] = true)
    (hc : (s.arbiter.drop ch).chosen = none) : s.releaseToken ch = s.setArbiter (s.arbiter.drop ch) := by
  simp only [State.releaseToken, h, if_true, hc]

/-- The token goes to the waiting channel that is next in the cycle (R113). -/
theorem State.releaseToken_pass (s : State) (ch next : Chan) (h : s.arbiter.holders[ch] = true)
    (hc : (s.arbiter.drop ch).chosen = some next) :
    s.releaseToken ch = (s.setArbiter ((s.arbiter.drop ch).grant next)).startSweep next := by
  simp only [State.releaseToken, h, if_true, hc]

theorem State.releaseToken_setReply (s : State) (ch : Chan) (r : List Byte) :
    (s.setReply r).releaseToken ch = (s.releaseToken ch).setReply r := by
  cases h : s.arbiter.holders[ch] with
  | false => rw [s.releaseToken_none ch h, (s.setReply r).releaseToken_none ch h]
  | true =>
    cases hc : (s.arbiter.drop ch).chosen with
    | none => rw [s.releaseToken_free ch h hc, (s.setReply r).releaseToken_free ch h hc]; rfl
    | some next =>
      rw [s.releaseToken_pass ch next h hc, (s.setReply r).releaseToken_pass ch next h hc]
      exact State.startSweep_setReply (s.setArbiter _) next r

theorem State.abortEngine_setReply (s : State) (ch : Chan) (r : List Byte) :
    (s.setReply r).abortEngine ch = (s.abortEngine ch).setReply r := by
  unfold State.abortEngine State.abortByState
  rw [State.onChan_setReply]
  congr 1
  dsimp only [State.setReply_chan]
  split
  · rfl
  · exact State.releaseToken_setReply ((s.onEngine ch Engine.markUncompared).drive ch .closeAll) ch r
  · exact State.releaseToken_setReply (s.drive ch .closeAll) ch r
  all_goals rfl

/-! ### The engine stopped and the channel's work withdrawn -/

/-- The first actions of an abort: the engine stopped, the work at the allocator withdrawn and the queue discarded. -/
def State.withdrawn (s : State) (ch : Chan) : State :=
  (((s.setReply [statusOk]).abortEngine ch).cancelWork ch).discardQueue ch

theorem State.cancelWork_eq (s : State) (ch : Chan) : s.cancelWork ch =
    (s.setAllocator (if s.allocator.item.serves ch || s.allocator.item.analyses ch then
      { s.allocator with item := .idle } else s.allocator)).onAllocation ch fun a => { a with request := none } := by
  unfold State.cancelWork State.idleAllocator
  split <;> rfl

theorem State.withdrawn_eq (s : State) (ch : Chan) : s.withdrawn ch =
    ((((s.abortEngine ch).setReply [statusOk]).setAllocator
      (if s.allocator.item.serves ch || s.allocator.item.analyses ch then { s.allocator with item := .idle }
        else s.allocator)).onChan ch fun c => { c with
          allocation := { c.allocation with request := none }
          queue := { c.queue with
            records := []
            counters := { c.queue.counters with
              discarded := Counter.add c.queue.counters.discarded c.queue.records.length } } }) := by
  obtain ⟨-, -, -, hallocator, -⟩ := s.abortEngine_rest ch
  rw [State.withdrawn, State.abortEngine_setReply, State.cancelWork_eq, State.discardQueue]
  simp only [State.setReply_allocator, hallocator, State.onQueue_eq, State.onAllocation_eq, State.onChan_onChan]

/-! ### The entries released and the lines returned -/

/-- Abort release, part by part (R16). -/
theorem State.abortRelease_spec (s : State) (ch : Chan) : ∃ X : List (List ReserveState),
    s.abortRelease ch = (s.onAllocation ch fun a => { a with reserve := X }).releaseWhere (Repair.foundBy ch)
    ∧ ∀ (bank : Bank) (j : Nat), reserveAt X bank j =
      if (∃ i : Fin 64, s.table[i.val].givesUp ch bank j = true)
          ∧ reserveAt s.chan[ch.val].allocation.reserve bank j = some .inUse
      then some .good else reserveAt s.chan[ch.val].allocation.reserve bank j := by
  obtain ⟨X, hX, hx⟩ := State.foldl_returnReserve ch s.table.toList s
  refine ⟨X, by rw [State.abortRelease, hX], fun bank j => ?_⟩
  have h : (∃ e ∈ s.table.toList, e.givesUp ch bank j = true)
      ↔ ∃ i : Fin 64, s.table[i.val].givesUp ch bank j = true := by
    constructor
    · rintro ⟨e, he, hg⟩
      rw [Vector.mem_toList_iff, Vector.mem_iff_getElem] at he
      obtain ⟨i, hi, rfl⟩ := he
      exact ⟨⟨i, hi⟩, hg⟩
    · rintro ⟨i, hg⟩
      exact ⟨_, Vector.mem_toList_iff.2 (Vector.getElem_mem i.isLt), hg⟩
  simp only [hx, h]

/-- The last releases of an abort: FOUND entries, which all are not in PREPARING, and the lines that no other channel borrows. -/
def State.released (s : State) (ch : Chan) (preparing : Bool) : State :=
  (((if preparing then s.reopen ch else s).abortRelease ch).stopClock ch).returnLines ch

/-- What the releases of an abort do, `X` being the channel's reserve rows after them (R16, R21, R153). -/
theorem State.released_spec (s : State) (ch : Chan) (preparing : Bool) : ∃ X : List (List ReserveState),
    (s.released ch preparing).chan[ch.val] = { s.chan[ch.val] with
      allocation := { s.chan[ch.val].allocation with reserve := X }
      timers := { s.chan[ch.val].timers with clockRunning := false } }
    ∧ (∀ c : Chan, ch ≠ c → (s.released ch preparing).chan[c.val] = s.chan[c.val])
    ∧ s.SameRest (s.released ch preparing) ∧ (s.released ch preparing).spare = s.spare
    ∧ (∀ (bank : Bank) (j : Nat), reserveAt X bank j =
      if (∃ i : Fin 64, (if preparing then s.table[i.val].reopen ch else s.table[i.val]).givesUp ch bank j = true)
          ∧ reserveAt s.chan[ch.val].allocation.reserve bank j = some .inUse
      then some .good else reserveAt s.chan[ch.val].allocation.reserve bank j)
    ∧ ∀ i : Fin 64, (s.released ch preparing).table[i.val] =
      match (if preparing then s.table[i.val].reopen ch else s.table[i.val]).repair? with
      | some r => if r.foundBy ch then .free
          else if preparing then s.table[i.val].reopen ch else s.table[i.val]
      | none => match s.table[i.val] with
        | .lent p => if s.borrowed ch p then .lent p else .free
        | .free => .free
        | .tentative r => .tentative r
        | .active r => .active r := by
  have htable (i : Fin 64) : (if preparing then s.reopen ch else s).table[i.val]
      = if preparing then s.table[i.val].reopen ch else s.table[i.val] := by
    cases preparing
    · rfl
    · simp only [if_true, State.reopen, State.mapTable_table]
  have hsame : (if preparing then s.reopen ch else s).chan = s.chan
      ∧ s.SameRest (if preparing then s.reopen ch else s) ∧ (if preparing then s.reopen ch else s).spare = s.spare := by
    cases preparing
    · exact ⟨rfl, ⟨rfl, rfl, rfl, rfl, rfl, rfl, rfl⟩, rfl⟩
    · exact ⟨by simp, by constructor <;> simp, by simp⟩
  have hlent (i : Fin 64) (p : Fin 8) : (if preparing then s.table[i.val].reopen ch else s.table[i.val]) = .lent p
      ↔ s.table[i.val] = .lent p := by
    cases preparing
    · rfl
    · cases s.table[i.val] <;> simp [Entry.reopen, Entry.repair?] <;> split <;> simp
  have hfree (i : Fin 64) : (if preparing then s.table[i.val].reopen ch else s.table[i.val]) = .free
      ↔ s.table[i.val] = .free := by
    cases preparing
    · rfl
    · exact Entry.reopen_eq_free _ ch
  unfold State.released
  generalize (if preparing then s.reopen ch else s) = u at htable hsame
  obtain ⟨hchan, hrest, hspare⟩ := hsame
  obtain ⟨X, hX, hx⟩ := u.abortRelease_spec ch
  simp only [htable, hchan] at hx
  have hborrowed (x : State) (h : ∀ c : Chan, x.chan[c.val].control.state = u.chan[c.val].control.state
      ∧ x.chan[c.val].setup = u.chan[c.val].setup) (p : Fin 8) : x.borrowed ch p = s.borrowed ch p :=
    State.borrowed_congr (fun c => by rw [(h c).1, hchan]) (fun c => by rw [(h c).2, hchan]) ch p
  refine ⟨X, ?_, fun c hc => ?_, ?_, ?_, hx, fun i => ?_⟩
  · rw [State.returnLines_chan, State.stopClock, hX, State.onTimers_same, State.releaseWhere_chan,
      State.onAllocation_same, hchan]
  · rw [State.returnLines_chan, State.stopClock, hX, State.onTimers_other _ hc, State.releaseWhere_chan,
      State.onAllocation_other _ hc, hchan]
  · rw [hX]
    exact hrest.trans (by constructor <;> simp [State.stopClock])
  · rw [hX, ← hspare]
    simp [State.stopClock]
  · rw [State.returnLines_entry, State.stopClock_table, hX, State.releaseWhere_entry, State.onAllocation_table, htable]
    have hb := hborrowed (((u.onAllocation ch fun a => { a with reserve := X }).releaseWhere
      (Repair.foundBy ch)).stopClock ch) fun c => by
        rw [State.stopClock, State.onTimers_chan, State.releaseWhere_chan, State.onAllocation_chan,
          State.onAllocation_chan, if_pos rfl]
        split
        · rename_i e; subst e; exact ⟨rfl, rfl⟩
        · exact ⟨rfl, rfl⟩
    generalize he : (if preparing then s.table[i.val].reopen ch else s.table[i.val]) = e at *
    have l := hlent i
    have f := hfree i
    rw [he] at l f
    cases e with
    | free => rw [f.1 rfl]; rfl
    | lent p => rw [(l p).1 rfl]; simp only [Entry.repair?, hb]
    | tentative r => cases hf : r.foundBy ch <;> simp [Entry.repair?, hf]
    | active r => cases hf : r.foundBy ch <;> simp [Entry.repair?, hf]

/-- An abort is the choice that follows a state that `Aborts` describes. -/
theorem State.takeAbort_eq (s : State) (ch : Chan) : ∃ a : State, s.Aborts a ch ∧ s.takeAbort ch = a.choose := by
  obtain ⟨atable, aspare, astore, aallocator, aloader, -, aspi, apending⟩ := s.abortEngine_rest ch
  have hw := s.withdrawn_eq ch
  obtain ⟨X, hsame, hother, hrest, hspare, hreserve, hentry⟩ :=
    (s.withdrawn ch).released_spec ch (decide (s.chan[ch.val].control.state = .preparing))
  have wsame := congrArg (fun x : State => x.chan[ch.val]) hw
  simp only [State.onChan_same] at wsame
  have wother (c : Chan) (hc : ch ≠ c) : (s.withdrawn ch).chan[c.val] = (s.abortEngine ch).chan[c.val] := by
    rw [hw, State.onChan_other _ hc]; rfl
  have wtable : (s.withdrawn ch).table = s.table := by rw [hw]; exact atable
  rw [State.setAllocator_chan, State.setReply_chan, State.abortEngine_same] at wsame
  have wborrowed (p : Fin 8) : (s.withdrawn ch).borrowed ch p = s.borrowed ch p := by
    have h (c : Chan) : (s.withdrawn ch).chan[c.val].control = s.chan[c.val].control
        ∧ (s.withdrawn ch).chan[c.val].setup = s.chan[c.val].setup := by
      by_cases e : ch = c
      · subst e
        rw [wsame]; exact ⟨rfl, rfl⟩
      · obtain ⟨_, _, ho⟩ := s.abortEngine_other e
        rw [wother c e, ho]; exact ⟨rfl, rfl⟩
    exact State.borrowed_congr (fun c => by rw [(h c).1]) (fun c => by rw [(h c).2]) ch p
  simp only [decide_eq_true_eq, wtable, wborrowed, wsame] at hreserve hentry
  rw [wsame] at hsame
  refine ⟨(((s.withdrawn ch).released ch (decide (s.chan[ch.val].control.state = .preparing))).copyResult ch).onControl ch
    fun k => { k with state := .failed, outcome := .aborted }, ?_, ?_⟩
  · generalize (s.withdrawn ch).released ch (decide (s.chan[ch.val].control.state = .preparing)) = w at *
    have hchan : ((w.copyResult ch).onControl ch fun k =>
        { k with state := .failed, outcome := .aborted }).chan[ch.val] = { w.chan[ch.val] with
          result := w.endResult ch
          control := { w.chan[ch.val].control with state := .failed, outcome := .aborted } } := by
      rw [State.onControl_same, State.copyResult_chan, if_pos rfl]; rfl
    refine { same := ?_, other := fun c hc => ?_, reserve := fun bank j => ?_, entry := hentry,
             allocator := hrest.allocator.trans (by rw [hw]; rfl), arbiter := hrest.arbiter.trans (by rw [hw]; rfl)
             spare := hspare.trans (by rw [hw]; exact aspare), store := hrest.store.trans (by rw [hw]; exact astore)
             loader := hrest.loader.trans (by rw [hw]; exact aloader), reply := hrest.reply.trans (by rw [hw]; rfl)
             spiOut := hrest.spiOut.trans (by rw [hw]; exact aspi)
             pending := hrest.pending.trans (by rw [hw]; exact apending) }
    · have hres : ((w.copyResult ch).onControl ch fun k =>
          { k with state := .failed, outcome := .aborted }).endResult ch = w.endResult ch := by
        simp only [State.endResult, hchan]
        rfl
      rw [hres, hchan, hsame]
      rfl
    · rw [State.onControl_other _ hc, State.copyResult_chan, if_neg hc, hother c hc, wother c hc]
    · rw [hchan, hsame, hreserve]
      rfl
  · unfold State.takeAbort State.released State.withdrawn
    by_cases h : s.chan[ch.val].control.state = .preparing <;> simp [h]

end Sys2Proof.Machine

/-! PROOFS. Tokens (R84, R111 to R114): what a grant, a request, a withdrawal and a release do to the holders and to the number
of tokens held. -/

namespace Sys2Proof.Machine

/-! ## Holders and waiting channels -/

namespace Arbiter

variable (a : Arbiter) (ch c : Chan)

@[simp] theorem grant_holders : (a.grant ch).holders[c.val] = if ch = c then true else a.holders[c.val] := by
  simp [Arbiter.grant, Vector.getElem_set, Fin.ext_iff]

@[simp] theorem grant_waiting : (a.grant ch).waiting[c.val] = if ch = c then false else a.waiting[c.val] := by
  simp [Arbiter.grant, Vector.getElem_set, Fin.ext_iff]

@[simp] theorem drop_holders : (a.drop ch).holders[c.val] = if ch = c then false else a.holders[c.val] := by
  simp [Arbiter.drop, Vector.getElem_set, Fin.ext_iff]

@[simp] theorem wait_waiting : (a.wait ch).waiting[c.val] = if ch = c then true else a.waiting[c.val] := by
  simp [Arbiter.wait, Vector.getElem_set, Fin.ext_iff]

@[simp] theorem withdraw_waiting : (a.withdraw ch).waiting[c.val] = if ch = c then false else a.waiting[c.val] := by
  simp [Arbiter.withdraw, Vector.getElem_set, Fin.ext_iff]

@[simp] theorem grant_budget : (a.grant ch).budget = a.budget := rfl
@[simp] theorem grant_lastGranted : (a.grant ch).lastGranted = ch := rfl
@[simp] theorem drop_waiting : (a.drop ch).waiting = a.waiting := rfl
@[simp] theorem drop_budget : (a.drop ch).budget = a.budget := rfl
@[simp] theorem drop_lastGranted : (a.drop ch).lastGranted = a.lastGranted := rfl
@[simp] theorem wait_holders : (a.wait ch).holders = a.holders := rfl
@[simp] theorem wait_budget : (a.wait ch).budget = a.budget := rfl
@[simp] theorem wait_lastGranted : (a.wait ch).lastGranted = a.lastGranted := rfl
@[simp] theorem withdraw_holders : (a.withdraw ch).holders = a.holders := rfl
@[simp] theorem withdraw_budget : (a.withdraw ch).budget = a.budget := rfl
@[simp] theorem withdraw_lastGranted : (a.withdraw ch).lastGranted = a.lastGranted := rfl

/-! ## The number of tokens held -/

theorem held_eq : a.held = a.holders[0].toNat + a.holders[1].toNat + a.holders[2].toNat + a.holders[3].toNat := by
  have h (b : Bool) : (if b = true then 1 else 0) = b.toNat := by cases b <;> rfl
  have hl : List.finRange 4 = [0, 1, 2, 3] := rfl
  simp only [Arbiter.held, hl, List.countP_cons, List.countP_nil, Fin.getElem_fin, h]
  simp only [Fin.isValue, Fin.coe_ofNat_eq_mod, Nat.zero_mod, Nat.reduceMod, Nat.one_mod]
  omega

theorem held_congr {a b : Arbiter} (h : a.holders = b.holders) : a.held = b.held := by simp only [Arbiter.held, h]

@[simp] theorem held_wait : (a.wait ch).held = a.held := held_congr rfl
@[simp] theorem held_withdraw : (a.withdraw ch).held = a.held := held_congr rfl

theorem held_grant (h : a.holders[ch.val] = false) : (a.grant ch).held = a.held + 1 := by
  simp only [held_eq, Arbiter.grant]
  fin_cases ch <;> simp_all <;> omega

theorem held_drop (h : a.holders[ch.val] = true) : (a.drop ch).held + 1 = a.held := by
  simp only [held_eq, Arbiter.drop]
  fin_cases ch <;> simp_all <;> omega

/-- A release gives the token to a waiting channel. -/
theorem waiting_of_chosen {next : Chan} (h : a.chosen = some next) : a.waiting[next.val] = true := nextInCycle_meets h

/-- A release that chooses no channel has none waiting but, perhaps, the last granted. -/
theorem not_waiting_of_chosen_none (h : a.chosen = none) (hc : c ≠ a.lastGranted) : a.waiting[c.val] = false := by
  unfold Arbiter.chosen nextInCycle at h
  rw [List.find?_eq_none] at h
  have hall : ∀ last c : Chan, c ≠ last → c ∈ (List.range 3).map fun k => Fin.ofNat 4 (last.val + 1 + k) := by decide
  simpa using h c (hall _ c hc)

end Arbiter

namespace State

variable (s : State) (ch : Chan)

@[simp] theorem startSweep_arbiter : (s.startSweep ch).arbiter = s.arbiter := by
  unfold State.startSweep
  dsimp only
  split <;> rfl

theorem startSweep_march (m : March) (h : elementAt s.store s.chan[ch.val].engine.position = .march m) :
    s.startSweep ch = s.onEngine ch fun e => { e with
      state := .sweep
      generator := { sweep := some (newSweep s.chan[ch.val].geometry e.phase m.direction m.rotation), position := 0 } } := by
  simp only [State.startSweep, Fin.getElem_fin, h]

/-- A release takes the token of its channel, and gives none to a channel that does not wait. -/
theorem releaseToken_holders (h : s.arbiter.waiting[ch.val] = false) :
    (s.releaseToken ch).arbiter.holders[ch.val] = false ∧ (s.releaseToken ch).arbiter.waiting[ch.val] = false := by
  cases hh : s.arbiter.holders[ch] with
  | false =>
    rw [s.releaseToken_none ch hh]
    exact ⟨hh, h⟩
  | true =>
    cases hc : (s.arbiter.drop ch).chosen with
    | none =>
      rw [s.releaseToken_free ch hh hc, State.setArbiter_arbiter]
      exact ⟨by simp, h⟩
    | some next =>
      have hw := Arbiter.waiting_of_chosen _ hc
      have hn : next ≠ ch := fun e => by rw [e, Arbiter.drop_waiting, h] at hw; cases hw
      rw [s.releaseToken_pass ch next hh hc, State.startSweep_arbiter, State.setArbiter_arbiter]
      simp [hn, h]

/-- After an abort its channel holds no token and waits for none (R100, R114). -/
theorem abortEngine_tokens (h : s.BudgetLaw) : (s.abortEngine ch).arbiter.holders[ch.val] = false
    ∧ (s.abortEngine ch).arbiter.waiting[ch.val] = false := by
  obtain ⟨-, -, -, hholds, hwaits, -⟩ := h
  have holds := hholds ch
  have waits := hwaits ch
  simp only [Fin.getElem_fin] at holds waits
  have none (h : s.chan[ch.val].engine.state ≠ .sweep ∧ s.chan[ch.val].engine.state ≠ .stall) :
      s.arbiter.holders[ch.val] = false := by
    rw [Bool.eq_false_iff]
    exact fun hh => (holds hh).elim h.1 h.2
  have idle (h : s.chan[ch.val].engine.state ≠ .waitToken) : s.arbiter.waiting[ch.val] = false := by
    rw [Bool.eq_false_iff]
    exact fun hh => h (waits hh)
  have release (x : State) (ha : x.arbiter = s.arbiter) (hs : s.chan[ch.val].engine.state ≠ .waitToken) :
      (x.releaseToken ch).arbiter.holders[ch.val] = false ∧ (x.releaseToken ch).arbiter.waiting[ch.val] = false :=
    x.releaseToken_holders ch (ha ▸ idle hs)
  unfold State.abortEngine State.abortByState
  simp only [Fin.getElem_fin, State.onChan_arbiter]
  cases hs : s.chan[ch.val].engine.state <;> simp only
  case waitToken => exact ⟨none (by simp [hs]), by simp⟩
  case sweep => exact release _ rfl (by simp [hs])
  case stall => exact release _ rfl (by simp [hs])
  all_goals exact ⟨none (by simp [hs]), idle (by simp [hs])⟩

end State

end Sys2Proof.Machine

/-! PROOFS. The run's end, start and abort: the done report (R151), PREPARE RUN (R149) and ABORT (R153). -/

namespace Sys2Proof.Machine

/-! ## The end of a run, its start and its abort -/

/-- The done report's condition in the counts' own words (R151). -/
theorem Channel.condemned_iff (c : Channel) : c.condemned = true ↔
    c.allocation.counters.verifyFails ≠ 0 ∨ c.allocation.counters.unallocated ≠ 0 ∨ c.allocation.counters.shortfalls ≠ 0
      ∨ c.allocation.exhausted = true := by
  simp [Channel.condemned, or_assoc]

/-- Settles O39: the done report, from what it does to the channel, to each entry and to the rest. -/
theorem doneReportDecidesTheOutcome : Obligations.DoneReportDecidesTheOutcome := by
  unfold Obligations.DoneReportDecidesTheOutcome
  intro ch s
  obtain ⟨hstore, hloader, hallocator, hspare, hreply, hspi, hpending, harbiter⟩ := s.endRun_rest ch
  have hserved : ¬ s.chan[ch.val].condemned = true ↔ s.chan[ch.val].condemned = false := by simp
  simp only [Fin.getElem_fin, ← Channel.condemned_iff]
  refine ⟨fun h => s.endRun_chan_condemned ch h, fun h => ?_, fun i => ?_,
    fun c hc => s.endRun_chan_other fun e => hc e.symm, hspare, hstore, harbiter, hallocator, hloader, hreply, hspi,
    hpending⟩
  · have hv := s.counts_zero_iff ch
    simp only [Fin.getElem_fin] at hv
    rw [s.endRun_chan_served ch (hserved.1 h)]
    by_cases he : ∃ i : Fin 64, s.table[i.val].belongsTo ch = true
    · rw [if_pos he, if_neg fun h0 => hv.1 h0 he]
      rfl
    · rw [if_neg he, if_pos (hv.2 he)]
      rfl
  · rw [s.endRun_entry ch i]
    cases s.table[i.val] with
    | free => rfl
    | lent p => rfl
    | active r => rfl
    | tentative r =>
      refine ⟨fun h => if_neg ?_, fun h hr => if_pos ⟨hserved.1 h, hr⟩⟩
      rintro ⟨h1, h2⟩
      rcases h with h | h
      · simp [h1] at h
      · exact h h2

/-- What lending tells of a channel's use of a pattern it names (R19, R20). -/
theorem State.lendUse_named (s : State) (ch : Chan) (p : Fin 8) (h : s.chan[ch.val].names p = true) :
    s.lendUse ch p = match s.table[(patternEntry p).val] with
      | .free => if s.loader.patternTable[p.val]?.isSome then .lent else .unavailable
      | .lent _ => .lent
      | .tentative _ => .unavailable
      | .active _ => .unavailable := by
  unfold State.lendUse
  cases s.table[(patternEntry p).val] <;> simp [h]

/-- The line that is put in the Spare Store as a pattern is lent (R19). -/
theorem State.lendLine_named (s : State) (ch : Chan) (p : Fin 8) (h : s.chan[ch.val].names p = true) :
    s.lendLine ch p = match s.table[(patternEntry p).val] with
      | .free => s.loader.patternTable[p.val]?
      | .lent _ => none
      | .tentative _ => none
      | .active _ => none := by
  unfold State.lendLine
  cases s.table[(patternEntry p).val] <;> simp [h]

theorem State.lendLine_isSome {s : State} {ch : Chan} {p : Fin 8} (h : (s.lendLine ch p).isSome = true) :
    s.chan[ch.val].names p = true ∧ s.table[(patternEntry p).val] = .free := by
  unfold State.lendLine at h
  split at h
  · rename_i hn
    exact hn
  · simp at h

/-- An entry after PREPARING's steps is reopened, and a line is put at a FREE entry alone (R14, R19). -/
theorem State.Prepares.entry {s e : State} {ch : Chan} (h : s.Prepares e ch) (i : Fin 64) :
    e.table[i.val] = s.table[i.val].reopen ch ∧ e.spare[i.val] = s.spare[i.val]
      ∨ ∃ p : Fin 8, s.chan[ch.val].names p = true ∧ i = patternEntry p ∧ s.table[i.val] = .free
          ∧ e.table[i.val] = .lent p := by
  by_cases hp : ∃ p, i = patternEntry p
  · obtain ⟨p, rfl⟩ := hp
    obtain ⟨ht, hs⟩ := h.lent p
    cases hl : s.lendLine ch p with
    | none => exact .inl ⟨by rw [ht, hl]; rfl, by rw [hs, hl]; rfl⟩
    | some line =>
      obtain ⟨hn, hf⟩ := State.lendLine_isSome (s := s) (ch := ch) (p := p) (by rw [hl]; rfl)
      exact .inr ⟨p, hn, rfl, hf, by rw [ht, hl]; rfl⟩
  · exact .inl (h.others i fun p e => hp ⟨p, e⟩)

/-- PREPARING's steps are taken once no READ is unanswered (R149). -/
theorem State.prepareIfReady_eq (s : State) (ch : Chan) (hs : s.chan[ch.val].control.state = .preparing)
    (hr : s.chan[ch.val].path.returns = []) : s.prepareIfReady ch = (s.prepare ch).choose := by
  simp only [State.prepareIfReady, Fin.getElem_fin, hs, hr, and_self, if_true]

/-- Settles O27: the state in which the engine is started, part by part. -/
theorem prepareRunStartsTheRun : Obligations.PrepareRunStartsTheRun := by
  unfold Obligations.PrepareRunStartsTheRun
  intro ch s hs hr
  simp only [Fin.getElem_fin] at hs hr ⊢
  obtain ⟨e, he, hprepare⟩ := s.quiet.prepare_eq ch
  have hnames (p : Fin 8) : s.quiet.chan[ch.val].names p = s.chan[ch.val].names p := by rw [State.quiet_chan]; rfl
  refine ⟨e, ?_, ?_, fun p hp => ?_, fun p hp => ?_, fun i => ?_, fun i hi => ?_, fun c hc => ?_, he.rest.store,
    he.rest.arbiter, he.rest.allocator, he.rest.loader, he.rest.reply, he.rest.spiOut, he.rest.pending⟩
  · have hready := s.quiet.prepareIfReady_eq ch (by rw [State.quiet_chan]; exact hs) (by rw [State.quiet_chan]; exact hr)
    exact congrArg Host.Outcome.next (hready.trans (by rw [hprepare, State.quiet_chan]; rfl))
  · have h := he.same
    rw [State.quiet_chan] at h
    refine h.trans ?_
    have hrestart : ReserveState.restart = fun st => if st = .inUse then .inUse else .untested := by
      funext st; cases st <;> rfl
    simp only [Channel.prepared, Channel.modeSetCommands, List.nil_append, hrestart]
    rfl
  · rw [he.patterns, State.lendUse, if_neg (by simp [hnames, hp])]
  · obtain ⟨ht, hl⟩ := he.lent p
    have hu := he.patterns p
    rw [State.lendUse_named _ ch p ((hnames p).trans hp)] at hu
    rw [State.lendLine_named _ ch p ((hnames p).trans hp)] at ht hl
    simp only [State.quiet_table, State.quiet_loader, State.quiet_spare] at ht hl hu
    cases htable : s.table[(patternEntry p).val] with
    | free =>
      simp only [htable] at ht hl hu
      cases hline : s.loader.patternTable[p.val]? with
      | none => simp only [hline] at ht hu; exact ⟨ht, hu⟩
      | some line => simp only [hline] at ht hl hu; exact ⟨ht, hl, hu⟩
    | lent q => simp only [htable] at hu; exact hu
    | tentative r => simp only [htable] at hu; exact hu
    | active r => simp only [htable] at hu; exact hu
  · have hentry := he.entry i
    simp only [State.quiet_table, hnames] at hentry
    cases hrep : s.table[i.val].repair? with
    | some r =>
      rcases hentry with ⟨ht, -⟩ | ⟨p, hn, rfl, hf, ht⟩
      · rw [ht, Entry.reopen, hrep]
      · rw [hf] at hrep; cases hrep
    | none =>
      rcases hentry with ⟨ht, -⟩ | ⟨p, hn, rfl, hf, ht⟩
      · exact .inl (by rw [ht, Entry.reopen, hrep])
      · exact .inr ⟨p, hn, rfl, ht⟩
  · rcases he.entry i with ⟨-, h⟩ | ⟨p, -, -, hf, ht⟩
    · exact h
    · rw [State.quiet_table] at hf
      rcases hi with h | h
      · rw [ht, hf] at h; cases h
      · rw [hf] at h; cases h
  · rw [he.other c fun e => hc e.symm, State.quiet_chan]

end Sys2Proof.Machine

namespace Sys2Proof.Machine

/-! ## ABORT (R153) -/

/-- The choice leaves a channel without work alone. -/
theorem State.choose_chan_of_no_work (s : State) {c : Chan} (h : s.chan[c.val].hasWork = false) :
    s.choose.chan[c.val] = s.chan[c.val] := by
  rcases s.choose_cases with ⟨e, -⟩ | ⟨ch, -, hw, e⟩
  · rw [e]
  · have hne : ch ≠ c := fun e => by rw [e, h] at hw; cases hw
    rw [e]
    cases hq : s.chan[ch.val].queue.records with
    | cons f rest => rw [State.takeWork_record s ch f rest hq, State.onChan_other _ hne, State.setAllocator_chan]
    | nil =>
      cases hr : s.chan[ch.val].allocation.request with
      | some flag =>
        rw [State.takeWork_analysis s ch flag hq hr, State.onAllocation_other _ hne, State.setAllocator_chan]
      | none => simp [Channel.hasWork, hq, hr] at hw

/-- The item after a choice is the one before it, or a record or the analysis of a channel with work. -/
theorem State.choose_item (s : State) : s.choose.allocator.item = s.allocator.item
    ∨ ∃ ch : Chan, s.allocator.item = .idle ∧
      ((∃ f kind, f ∈ s.chan[ch.val].queue.records ∧ s.choose.allocator.item = .record f kind)
        ∨ ∃ flag, s.chan[ch.val].queue.records = [] ∧ s.chan[ch.val].allocation.request = some flag
            ∧ s.choose.allocator.item = .analysis ch flag) := by
  rcases s.choose_cases with ⟨e, -⟩ | ⟨ch, hi, hw, e⟩
  · exact .inl (by rw [e])
  · refine .inr ⟨ch, hi, ?_⟩
    rw [e]
    cases hq : s.chan[ch.val].queue.records with
    | cons f rest =>
      exact .inl ⟨f, s.classify f, by simp, by rw [State.takeWork_record s ch f rest hq]; rfl⟩
    | nil =>
      cases hr : s.chan[ch.val].allocation.request with
      | some flag => exact .inr ⟨flag, rfl, rfl, by rw [State.takeWork_analysis s ch flag hq hr]; rfl⟩
      | none => simp [Channel.hasWork, hq, hr] at hw

namespace State.Aborts

variable {s a : State} {ch : Chan}

/-- The aborted channel has no work left. -/
theorem no_work (h : s.Aborts a ch) : a.chan[ch.val].hasWork = false := by
  rw [h.same]
  rfl

/-- The item that stays in service is not the aborted channel's. -/
theorem item (h : s.Aborts a ch) : a.allocator.item.serves ch = false ∧ a.allocator.item.analyses ch = false := by
  rw [h.allocator]
  split
  · exact ⟨rfl, rfl⟩
  · rename_i hn
    simpa using hn

theorem choose_analyses (h : s.Aborts a ch) : a.choose.allocator.item.analyses ch = false := by
  rcases a.choose_item with e | ⟨c, -, ⟨f, kind, -, e⟩ | ⟨flag, -, hr, e⟩⟩
  · rw [e]; exact h.item.2
  · rw [e]; rfl
  · rw [e, AllocatorItem.analyses, beq_eq_false_iff_ne]
    rintro rfl
    have := h.no_work
    simp [Channel.hasWork, hr] at this

theorem other_eq (h : s.Aborts a ch) {c : Chan} (hc : ch ≠ c) : ∃ (state : EngineState) (g : AddressGenerator),
    a.chan[c.val] = { s.chan[c.val] with engine := { s.chan[c.val].engine with state := state, generator := g } } := by
  rw [h.other c hc]
  exact s.abortEngine_other hc

theorem choose_serves (h : s.Aborts a ch) (hq : ∀ c : Chan, ∀ f ∈ s.chan[c.val].queue.records, f.channel = c) :
    a.choose.allocator.item.serves ch = false := by
  rcases a.choose_item with e | ⟨c, -, ⟨f, kind, hf, e⟩ | ⟨flag, -, -, e⟩⟩
  · rw [e]; exact h.item.1
  · rw [e, AllocatorItem.serves, beq_eq_false_iff_ne]
    intro hfc
    by_cases hc : ch = c
    · subst hc
      have := h.no_work
      simp [Channel.hasWork] at this
      rw [this.1] at hf
      cases hf
    · obtain ⟨_, _, he⟩ := h.other_eq hc
      rw [he] at hf
      exact hc (hfc ▸ hq c f hf)
  · rw [e]; rfl

/-- The entries of a table that an abort leaves, spelt by what stood there before it (R16, R21, R153). -/
theorem table (h : s.Aborts a ch) (i : Fin 64) : match s.table[i.val] with
    | .free => a.table[i.val] = .free
    | .lent p => a.table[i.val] = if s.borrowed ch p then .lent p else .free
    | .tentative r => a.table[i.val] =
        if r.channel ≠ ch then .tentative r
        else if s.chan[ch.val].control.state = .preparing then .tentative { r with origin := .carried }
        else if r.origin = .found then .free else .tentative r
    | .active r => a.table[i.val] =
        if r.channel ≠ ch then .active r
        else if s.chan[ch.val].control.state = .preparing then .tentative { r with origin := .carried }
        else if r.origin = .found then .free else .active r := by
  have he := h.entry i
  by_cases hp : s.chan[ch.val].control.state = .preparing
  · have hae : s.abortEntry ch i = s.table[i.val].reopen ch := if_pos hp
    cases ht : s.table[i.val] with
    | free => simp [hae, ht, Entry.reopen, Entry.repair?] at he ⊢; exact he
    | lent p => simp [hae, ht, Entry.reopen, Entry.repair?] at he ⊢; exact he
    | tentative r =>
      by_cases hc : r.channel = ch <;>
        simp [hae, ht, Entry.reopen, Entry.repair?, hc, Repair.foundBy] at he ⊢ <;> simp [he, hp]
    | active r =>
      by_cases hc : r.channel = ch <;>
        simp [hae, ht, Entry.reopen, Entry.repair?, hc, Repair.foundBy] at he ⊢ <;> simp [he, hp]
  · have hae : s.abortEntry ch i = s.table[i.val] := if_neg hp
    cases ht : s.table[i.val] with
    | free => simpa [hae, ht, Entry.repair?] using he
    | lent p => simpa [hae, ht, Entry.repair?] using he
    | tentative r =>
      by_cases hc : r.channel = ch <;> simp [hae, ht, Entry.repair?, hc, Repair.foundBy, hp] at he ⊢ <;> exact he
    | active r =>
      by_cases hc : r.channel = ch <;> simp [hae, ht, Entry.repair?, hc, Repair.foundBy, hp] at he ⊢ <;> exact he

end State.Aborts

/-- An entry gives up a reserve row to an abort if it is one of the channel's that are not kept, and a REMAP to that row. -/
theorem State.abortEntry_givesUp (s : State) (ch : Chan) (i : Fin 64) (bank : Bank) (j : Nat) :
    (s.abortEntry ch i).givesUp ch bank j = true ↔ ∃ r : Repair, s.table[i.val].repair? = some r ∧ r.channel = ch
      ∧ ¬ (s.chan[ch.val].control.state = .preparing ∨ r.origin = .carried) ∧ r.kind = .remap j ∧ r.bank = bank := by
  have found (r : Repair) : r.origin = .found ↔ ¬ r.origin = .carried := by cases r.origin <;> simp
  by_cases hp : s.chan[ch.val].control.state = .preparing
  · simp only [hp, true_or, not_true_eq_false, false_and, and_false, exists_false, iff_false, Bool.not_eq_true,
      State.abortEntry, if_true]
    cases s.table[i.val] with
    | free => rfl
    | lent p => rfl
    | tentative r =>
      by_cases hc : r.channel = ch <;> simp [Entry.reopen, Entry.repair?, Entry.givesUp, Repair.foundBy, hc]
    | active r =>
      by_cases hc : r.channel = ch <;> simp [Entry.reopen, Entry.repair?, Entry.givesUp, Repair.foundBy, hc]
  · simp only [hp, false_or, State.abortEntry, if_false, Entry.givesUp]
    cases s.table[i.val].repair? with
    | none => simp
    | some r => simp [Repair.foundBy, found]; tauto

/-- A maintenance command of a channel, once the loader is FINISHED. -/
theorem State.channelCommand_eq (s : State) {arg : Byte} {ch : Chan} (effect : State → Chan → State)
    (hf : s.loader.phase = .finished) (ha : arg.toNat = ch.val) : s.channelCommand arg effect = effect s ch := by
  have hch : channelArgument arg = some ch := by
    unfold channelArgument
    simp [ha]
  simp only [State.channelCommand, State.maintenance, hf, if_true, hch]

/-- Settles O17: an abort is the choice after a state that `State.Aborts` describes, and a choice leaves the aborted channel and
all that is stated of the others. -/
theorem abortEndsRunAndReleasesFound : Obligations.AbortEndsRunAndReleasesFound := by
  unfold Obligations.AbortEndsRunAndReleasesFound
  intro arg ch s hf ha hs
  simp only [Fin.getElem_fin] at hs ⊢
  obtain ⟨a, hab, htake⟩ := s.quiet.takeAbort_eq ch
  have hq (c : Chan) : s.quiet.chan[c.val] = { s.chan[c.val] with pins := ⟨[], []⟩ } := s.quiet_chan c
  have hexec : exec (.abort arg) s = .next a.choose := by
    refine congrArg Host.Outcome.next ?_
    rw [State.channelCommand_eq s.quiet State.abort hf ha, State.abort]
    simp only [Fin.getElem_fin, hq, hs, if_true, htake]
  obtain ⟨htable, hspare, hstore, harbiter, hloader, hreply, hspi, hpending⟩ := a.choose_frame
  have hch : a.choose.chan[ch.val] = a.chan[ch.val] := a.choose_chan_of_no_work hab.no_work
  have hsame := hab.same
  have hentry (i : Fin 64) := hab.table i
  have hgives (i : Fin 64) (bank : Bank) (j : Nat) := s.quiet.abortEntry_givesUp ch i bank j
  have hreserve := hab.reserve
  have hb (p : Fin 8) : s.quiet.borrowed ch p = s.borrowed ch p :=
    State.borrowed_congr (fun c => by rw [hq]) (fun c => by rw [hq]) ch p
  simp only [hq, hb, hgives, State.quiet_table] at hsame hentry hreserve
  have hsub (c : Chan) : a.choose.substituteCount c = a.substituteCount c :=
    State.substituteCount_congr (fun i => by rw [htable]) c
  have hrem (c : Chan) : a.choose.remapCount c = a.remapCount c := State.remapCount_congr (fun i => by rw [htable]) c
  refine ⟨a.choose, hexec, ?_⟩
  rw [hch, htable, hspare, hstore, harbiter, hloader, hreply, hspi, hpending, hsub, hrem, hab.reply, hab.spare, hab.store,
    hab.loader, hab.spiOut, hab.pending]
  refine ⟨rfl, by rw [hsame], by rw [hsame]; rfl, by rw [hsame]; rfl, by rw [hsame], by rw [hsame], by rw [hsame],
    by rw [hsame], by rw [hsame], by rw [hsame]; rfl, by rw [hsame]; rfl, by rw [hsame]; rfl, by rw [hsame]; rfl,
    by rw [hsame]; rfl, ?_, hab.choose_analyses, fun hq' => ?_, fun hbudget => ?_, hentry, fun i r j hr hc hk hkind hu => ?_,
    fun bank j hn => ?_, rfl, rfl, rfl, rfl, rfl, fun c hc => ?_⟩
  · have hresult : a.chan[ch.val].result = a.endResult ch := by rw [hsame]
    have hcounters : a.chan[ch.val].allocation.counters = s.chan[ch.val].allocation.counters := by rw [hsame]
    have hclamps : a.chan[ch.val].timers.holdClamps = s.chan[ch.val].timers.holdClamps := by rw [hsame]; rfl
    have hengine : a.chan[ch.val].engine.counters = s.chan[ch.val].engine.counters := by rw [hsame]; rfl
    have hraw : a.chan[ch.val].queue.firstRaw = s.chan[ch.val].queue.firstRaw := by rw [hsame]
    have hverify : a.chan[ch.val].queue.firstVerify = s.chan[ch.val].queue.firstVerify := by rw [hsame]
    have hclock : a.chan[ch.val].timers.clock = s.chan[ch.val].timers.clock := by rw [hsame]; rfl
    rw [hresult, State.endResult, hcounters, hclamps, hengine, hraw, hverify, hclock]
  · refine hab.choose_serves fun c f hfm => hq' c f ?_
    rw [hq] at hfm
    exact hfm
  · rw [hab.arbiter]
    exact s.quiet.abortEngine_tokens ch (hbudget.congr (.quiet s))
  · rw [hreserve, if_pos ⟨⟨i, r, hr, hc, hk, hkind, rfl⟩, hu⟩]
  · rw [hreserve, if_neg]
    rintro ⟨⟨i, r, hr, hc, hk, hkind, hbank⟩, -⟩
    exact hn i r hr hc hk ⟨hkind, hbank⟩
  · obtain ⟨records, request, state, e⟩ := a.choose_chan c
    obtain ⟨state', g, e'⟩ := hab.other_eq fun h => hc h.symm
    rw [e, e', hq]
    exact ⟨rfl, rfl, rfl, rfl, rfl, rfl, rfl, rfl, rfl, rfl, rfl, rfl, rfl, rfl, rfl⟩

end Sys2Proof.Machine

/-! PROOFS. The stages of a load (sections 10.3 and 10.4): the image applied, the decisions of R165, the carried records and the
placement of the channels, each as what it does to the channels and the entries. -/

namespace Sys2Proof.Machine

/-! ## The decisions of all four channels (R148, R165) -/

/-- A channel that starts from nothing (R148, R171). -/
def Channel.afresh (c : Channel) : Channel :=
  { c with control := Control.reset, result := CopiedResult.reset, allocation := { c.allocation with reserve := c.freshReserve } }

/-- An entry once the channels of a test start from nothing. -/
def Entry.without (p : Chan → Bool) (e : Entry) : Entry :=
  match e.repair? with
  | some r => if p r.channel then .free else e
  | none => e

theorem Channel.afresh_afresh (c : Channel) : c.afresh.afresh = c.afresh := rfl

namespace State

variable (s : State) (ch : Chan)

theorem startAfresh_chan (c : Chan) : (s.startAfresh ch).chan[c.val] =
    if ch = c then s.chan[c.val].afresh else s.chan[c.val] := by
  unfold State.startAfresh
  rw [State.onChan_chan, State.releaseWhere_chan]
  split
  · rename_i e; subst e; rfl
  · rfl

theorem startAfresh_entry (i : Fin 64) : (s.startAfresh ch).table[i.val] = s.table[i.val].without fun c => c == ch := by
  unfold State.startAfresh
  rw [State.onChan_table, State.releaseWhere_entry, Entry.without] <;> rfl

theorem startAfresh_rest : s.SameRest (s.startAfresh ch) ∧ (s.startAfresh ch).spare = s.spare := by
  unfold State.startAfresh
  constructor
  · constructor <;> simp
  · simp

end State

theorem Entry.without_without (p q : Chan → Bool) (e : Entry) :
    (e.without p).without q = e.without fun c => p c || q c := by
  cases e with
  | free => rfl
  | lent l => rfl
  | tentative r => cases h : p r.channel <;> simp [Entry.without, Entry.repair?, h]
  | active r => cases h : p r.channel <;> simp [Entry.without, Entry.repair?, h]

/-- The entry stays unless it is freed. -/
theorem Entry.without_cases (p : Chan → Bool) (e : Entry) : e.without p = e
    ∧ (∀ r, e.repair? = some r → p r.channel = false)
    ∨ e.without p = .free ∧ ∃ r, e.repair? = some r ∧ p r.channel = true := by
  unfold Entry.without
  cases h : e.repair? with
  | none => exact .inl ⟨rfl, fun r hr => by cases hr⟩
  | some r =>
    cases hp : p r.channel
    · exact .inl ⟨by simp [hp], fun q hq => by cases hq; exact hp⟩
    · exact .inr ⟨by simp [hp], r, rfl, hp⟩

/-- The decisions for a list of channels. -/
theorem State.foldl_startAfresh (resumes : Chan → Bool) (l : List Chan) (s : State) :
    let t := l.foldl (fun s ch => if resumes ch then s else s.startAfresh ch) s
    (∀ c : Chan, t.chan[c.val] = if c ∈ l ∧ resumes c = false then s.chan[c.val].afresh else s.chan[c.val])
      ∧ (∀ i : Fin 64, t.table[i.val] = s.table[i.val].without fun c => decide (c ∈ l) && !resumes c)
      ∧ s.SameRest t ∧ t.spare = s.spare := by
  induction l generalizing s with
  | nil =>
    refine ⟨fun c => by simp, fun i => ?_, ⟨rfl, rfl, rfl, rfl, rfl, rfl, rfl⟩, rfl⟩
    rcases Entry.without_cases (fun c => decide (c ∈ []) && !resumes c) s.table[i.val] with ⟨e, -⟩ | ⟨-, r, -, h⟩
    · exact e.symm
    · simp at h
  | cons ch l ih =>
    rw [List.foldl_cons]
    cases hr : resumes ch
    · obtain ⟨hchan, hentry, hrest, hspare⟩ := ih (s.startAfresh ch)
      simp only [Bool.false_eq_true, if_false]
      refine ⟨fun c => ?_, fun i => ?_, (s.startAfresh_rest ch).1.trans hrest, hspare.trans (s.startAfresh_rest ch).2⟩
      · rw [hchan, State.startAfresh_chan]
        by_cases hc : ch = c
        · subst hc
          by_cases hm : ch ∈ l <;> simp [hr, hm, Channel.afresh_afresh]
        · simp [hc, Ne.symm hc]
      · rw [hentry, State.startAfresh_entry, Entry.without_without]
        congr 1
        funext c
        by_cases hc : c = ch
        · subst hc; simp [hr]
        · simp [hc]
    · obtain ⟨hchan, hentry, hrest, hspare⟩ := ih s
      simp only [if_true]
      refine ⟨fun c => ?_, fun i => ?_, hrest, hspare⟩
      · rw [hchan]
        by_cases hc : c = ch
        · subst hc; simp [hr]
        · simp [hc]
      · rw [hentry]
        congr 1
        funext c
        by_cases hc : c = ch
        · subst hc; simp [hr]
        · simp [hc]

section Decide

variable (s : State) (resumes : Chan → Bool)

theorem State.decideResumption_chan (c : Chan) : (s.decideResumption resumes).chan[c.val] =
    if resumes c then s.chan[c.val] else s.chan[c.val].afresh := by
  rw [State.decideResumption, (State.foldl_startAfresh resumes _ s).1]
  cases resumes c <;> simp

theorem State.decideResumption_entry (i : Fin 64) : (s.decideResumption resumes).table[i.val] =
    s.table[i.val].without fun c => !resumes c := by
  rw [State.decideResumption, (State.foldl_startAfresh resumes _ s).2.1]
  simp

theorem State.decideResumption_rest :
    s.SameRest (s.decideResumption resumes) ∧ (s.decideResumption resumes).spare = s.spare :=
  (State.foldl_startAfresh resumes _ s).2.2

end Decide

/-! ## The carried records (R166) -/

/-- What the loading of carried records changes: dropped counts, reserve rows, and FREE entries that a record takes, whose channel
does not resume and is to be tested. -/
structure State.Carries (resumes : Chan → Bool) (s t : State) : Prop where
  chan : ∀ c : Chan, ∃ (n : Counter 16) (X : List (List ReserveState)), t.chan[c.val] = { s.chan[c.val] with
    setup := { s.chan[c.val].setup with dropped := n }
    allocation := { s.chan[c.val].allocation with reserve := X } }
  resuming : ∀ c : Chan, resumes c = true → t.chan[c.val] = s.chan[c.val]
  entry : ∀ i : Fin 64, t.table[i.val] = s.table[i.val] ∧ t.spare[i.val] = s.spare[i.val]
    ∨ s.table[i.val] = .free ∧ ∃ r : Repair, t.table[i.val] = .tentative r ∧ resumes r.channel = false
        ∧ s.chan[r.channel.val].toBeTested = true ∧ r.origin = .carried
  rest : s.SameRest t

namespace State.Carries

variable {resumes : Chan → Bool} {s t u : State}

theorem refl (s : State) : s.Carries resumes s :=
  ⟨fun _ => ⟨_, _, rfl⟩, fun _ _ => rfl, fun _ => .inl ⟨rfl, rfl⟩, ⟨rfl, rfl, rfl, rfl, rfl, rfl, rfl⟩⟩

theorem toBeTested (h : s.Carries resumes t) (c : Chan) : t.chan[c.val].toBeTested = s.chan[c.val].toBeTested := by
  obtain ⟨_, _, e⟩ := h.chan c
  rw [e]; rfl

theorem trans (h : s.Carries resumes t) (h' : t.Carries resumes u) : s.Carries resumes u where
  chan c := by
    obtain ⟨n, X, e⟩ := h.chan c
    obtain ⟨n', X', e'⟩ := h'.chan c
    exact ⟨n', X', by rw [e', e]⟩
  resuming c hc := (h'.resuming c hc).trans (h.resuming c hc)
  entry i := by
    rcases h'.entry i with ⟨e', hs'⟩ | ⟨hf, r, ht, hr, hb, ho⟩
    · rcases h.entry i with ⟨e, hs⟩ | ⟨hf, r, ht, hrest⟩
      · exact .inl ⟨e'.trans e, hs'.trans hs⟩
      · exact .inr ⟨hf, r, e'.trans ht, hrest⟩
    · rcases h.entry i with ⟨e, hs⟩ | ⟨_, r', ht', -⟩
      · exact .inr ⟨e ▸ hf, r, ht, hr, h.toBeTested _ ▸ hb, ho⟩
      · rw [ht'] at hf; cases hf
  rest := h.rest.trans h'.rest

end State.Carries

theorem State.dropCarried_carries {resumes : Chan → Bool} (s : State) (ch : Chan) (h : resumes ch = false) :
    s.Carries resumes (s.dropCarried ch) where
  chan c := by
    rw [State.dropCarried, State.onSetup_chan]
    split
    · rename_i e; subst e; exact ⟨_, _, rfl⟩
    · exact ⟨_, _, rfl⟩
  resuming c hc := by
    have : ch ≠ c := fun e => by rw [e, hc] at h; cases h
    rw [State.dropCarried, State.onSetup_other _ this]
  entry i := .inl ⟨rfl, rfl⟩
  rest := ⟨rfl, rfl, rfl, rfl, rfl, rfl, rfl⟩

theorem State.holdReserve_eq (s : State) (r : Repair) : ∃ X : List (List ReserveState),
    s.holdReserve r = s.onAllocation r.channel fun a => { a with reserve := X } := by
  unfold State.holdReserve
  split
  · rename_i j _
    exact ⟨setReserve s.chan[r.channel.val].allocation.reserve r.bank j .inUse, by
      rw [State.setReserveRow, State.onAllocation_eq, State.onAllocation_eq]
      exact State.onChan_congr _ _ rfl⟩
  · exact ⟨s.chan[r.channel.val].allocation.reserve, (State.onChan_id s _ _ rfl).symm⟩

/-- What a creation does to the entries: one FREE entry is taken, and its line may be zeroed. -/
theorem State.create_entry {s t : State} {r : Repair} (h : s.create r = some t) : ∃ (i : Fin 64) (q : Repair),
    s.table[i.val] = .free ∧ q = r.normalised s.chan[r.channel.val] ∧ t.table[i.val] = .tentative q
      ∧ ∀ j : Fin 64, j ≠ i → t.table[j.val] = s.table[j.val] ∧ t.spare[j.val] = s.spare[j.val] := by
  unfold State.create at h
  split at h
  · cases h
  · rename_i i hi
    have hfree : s.table[i.val] = .free := by simpa using List.find?_some hi
    split at h <;> cases h <;> refine ⟨i, _, hfree, rfl, by simp, fun j hj => ?_⟩ <;> simp [Ne.symm hj]

theorem Repair.normalised_channel (r : Repair) (c : Channel) : (r.normalised c).channel = r.channel := by
  unfold Repair.normalised
  split <;> rfl

theorem Repair.normalised_origin (r : Repair) (c : Channel) : (r.normalised c).origin = r.origin := by
  unfold Repair.normalised
  split <;> rfl

theorem Repair.normalised_holdsReserve (r : Repair) (c : Channel) (ch : Chan) (bank : Bank) (j : Nat) :
    (r.normalised c).holdsReserve ch bank j = r.holdsReserve ch bank j := by
  have hne (column : Column) (scope : Scope) : (RepairKind.substitute column scope == .remap j) = false := by simp
  unfold Repair.normalised
  cases hk : r.kind <;> simp [Repair.holdsReserve, hk, hne]

theorem State.loadCarried_carries (resumes : Chan → Bool) (s : State) (k : CarriedRecord) :
    s.Carries resumes (State.loadCarried resumes s k) := by
  unfold State.loadCarried
  split
  · exact .refl s
  · rename_i hr
    rw [Bool.not_eq_true] at hr
    split
    · exact s.dropCarried_carries _ hr
    · rename_i hb
      have htest : s.chan[k.channel.val].toBeTested = true := by
        by_contra h
        exact hb (by simp [State.barsCarried, h])
      split
      · rename_i t ht
        obtain ⟨hchan, hstore, harbiter, hallocator, hloader, hreply, hspi, hpending⟩ := State.create_frame ht
        obtain ⟨i, q, hfree, hq, hi, hothers⟩ := State.create_entry ht
        obtain ⟨X, hX⟩ := t.holdReserve_eq k.repair
        have hqc : q.channel = k.channel := by rw [hq, Repair.normalised_channel]; rfl
        rw [hX]
        refine ⟨fun c => ?_, fun c hc => ?_, fun j => ?_, ?_⟩
        · rw [State.onAllocation_chan, hchan]
          split
          · rename_i e; subst e; exact ⟨_, _, rfl⟩
          · exact ⟨_, _, rfl⟩
        · have hne : k.repair.channel ≠ c := fun e => by rw [← e] at hc; exact absurd (hr.symm.trans hc) (by simp)
          rw [State.onAllocation_other _ hne, hchan]
        · by_cases hj : j = i
          · subst hj
            refine .inr ⟨hfree, q, hi, hqc ▸ hr, by simpa only [hqc] using htest, ?_⟩
            rw [hq, Repair.normalised_origin]; rfl
          · exact .inl (hothers j hj)
        · exact ⟨hstore, harbiter, hallocator, hloader, hreply, hspi, hpending⟩
      · exact s.dropCarried_carries _ hr

theorem State.foldl_loadCarried_carries (resumes : Chan → Bool) (l : List CarriedRecord) (s : State) :
    s.Carries resumes (l.foldl (State.loadCarried resumes) s) := by
  induction l generalizing s with
  | nil => exact .refl s
  | cons k l ih => exact (s.loadCarried_carries resumes k).trans (ih _)

/-! ## Up to the placement -/

/-- The state of a GOOD load in which the decisions are made and no record is taken. -/
def State.decided (s : State) (image : List Byte) : State :=
  (s.applyImage image).decideResumption ((s.applyImage image).resumes image)

/-- The state of a GOOD load before the first channel is placed. -/
def State.loaded (s : State) (image : List Byte) : State :=
  ((carriedOf image).foldl (State.loadCarried ((s.applyImage image).resumes image)) (s.decided image)).endLoad .good
    (some (checkValue image))

theorem State.loadGood_eq (s : State) (image : List Byte) (order : List Chan) : s.loadGood image order =
    (placementOrder order).foldl (State.place ((s.applyImage image).resumes image)) (s.loaded image) := rfl

theorem State.enterService_chan (s : State) (ch c : Chan) (outcome : RunOutcome) :
    (s.enterService ch outcome).chan[c.val] = if ch = c then { s.chan[c.val] with
      path := { s.chan[c.val].path with tracker := allClosed }
      control := { s.chan[c.val].control with state := .service, outcome := outcome } } else s.chan[c.val] := by
  unfold State.enterService
  rw [State.onControl_chan]
  split
  · rename_i e; subst e; rw [State.onPath_same]
  · rename_i e; rw [State.onPath_other _ e]

end Sys2Proof.Machine

/-! PROOFS. What a load leaves: one that fails, whole (R162, R167), and one that is GOOD, up to the placement of the channels. -/

namespace Sys2Proof.Machine

/-! ## The small steps of a load -/

namespace State

section EndLoad

variable (s : State) (status : ImageStatus) (check : Option (BitVec 32))

@[simp] theorem endLoad_chan : (s.endLoad status check).chan = s.chan := rfl
@[simp] theorem endLoad_table : (s.endLoad status check).table = s.table := rfl
@[simp] theorem endLoad_spare : (s.endLoad status check).spare = s.spare := rfl
@[simp] theorem endLoad_store : (s.endLoad status check).store = s.store := rfl
@[simp] theorem endLoad_arbiter : (s.endLoad status check).arbiter = s.arbiter := rfl
@[simp] theorem endLoad_allocator : (s.endLoad status check).allocator = s.allocator := rfl
@[simp] theorem endLoad_reply : (s.endLoad status check).reply = s.reply := rfl
@[simp] theorem endLoad_spiOut : (s.endLoad status check).spiOut = s.spiOut := rfl
@[simp] theorem endLoad_pending : (s.endLoad status check).pending = s.pending := rfl

end EndLoad

theorem enterService_rest (s : State) (ch : Chan) (outcome : RunOutcome) : s.SameRest (s.enterService ch outcome) :=
  ⟨rfl, rfl, rfl, rfl, rfl, rfl, rfl⟩

section ApplyImage

variable (s : State) (image : List Byte)

theorem applyImage_chan (c : Chan) : (s.applyImage image).chan[c.val] =
    { s.chan[c.val] with setup := setupOf image (storeOf image) c } := by
  simp only [State.applyImage, State.mapChan_chan, State.setLoader_chan, State.setStore_chan, State.setArbiter_chan,
    State.setLoader_store, State.setStore_store]

@[simp] theorem applyImage_table : (s.applyImage image).table = s.table := by simp [State.applyImage]
@[simp] theorem applyImage_spare : (s.applyImage image).spare = s.spare := by simp [State.applyImage]
@[simp] theorem applyImage_store : (s.applyImage image).store = storeOf image := by simp [State.applyImage]
@[simp] theorem applyImage_arbiter : (s.applyImage image).arbiter = { s.arbiter with budget := budgetOf image } := by
  simp [State.applyImage]
@[simp] theorem applyImage_allocator : (s.applyImage image).allocator = s.allocator := by simp [State.applyImage]
@[simp] theorem applyImage_reply : (s.applyImage image).reply = s.reply := by simp [State.applyImage]
@[simp] theorem applyImage_spiOut : (s.applyImage image).spiOut = s.spiOut := by simp [State.applyImage]
@[simp] theorem applyImage_pending : (s.applyImage image).pending = s.pending := by simp [State.applyImage]
@[simp] theorem applyImage_loader : (s.applyImage image).loader = { s.loader with
    patternTable := patternsOf image, policy := some (policyOf image) } := by simp [State.applyImage]

end ApplyImage

end State

/-! ## A load that fails (R147, R162) -/

/-- A channel that serves untested (R147). -/
def Channel.served (c : Channel) : Channel :=
  { c with
    path := { c.path with tracker := allClosed }
    control := { c.control with state := .service, outcome := .untested } }

theorem State.place_untested (s : State) (ch : Chan) (h : s.chan[ch.val].untested = true) :
    State.place (fun _ => false) s ch = s.enterService ch .untested := by
  simp only [State.place, Fin.getElem_fin, h, Bool.false_eq_true, if_false, if_true]

/-- Channels that are untested serve, one after another. -/
theorem State.foldl_place_untested (l : List Chan) (s : State) (h : ∀ c : Chan, s.chan[c.val].untested = true) :
    (∀ c : Chan, (l.foldl (State.place fun _ => false) s).chan[c.val] =
        if c ∈ l then s.chan[c.val].served else s.chan[c.val])
      ∧ s.SameRest (l.foldl (State.place fun _ => false) s)
      ∧ (l.foldl (State.place fun _ => false) s).table = s.table
      ∧ (l.foldl (State.place fun _ => false) s).spare = s.spare := by
  induction l generalizing s with
  | nil => exact ⟨fun c => by simp, ⟨rfl, rfl, rfl, rfl, rfl, rfl, rfl⟩, rfl, rfl⟩
  | cons ch l ih =>
    rw [List.foldl_cons, s.place_untested ch (h ch)]
    have hchan (c : Chan) := s.enterService_chan ch c .untested
    obtain ⟨hc, hrest, htable, hspare⟩ := ih (s.enterService ch .untested) fun c => by
      rw [hchan]
      split
      · exact h c
      · exact h c
    refine ⟨fun c => ?_, (s.enterService_rest ch .untested).trans hrest, htable, hspare⟩
    rw [hc, hchan]
    by_cases e : ch = c
    · subst e
      by_cases hm : ch ∈ l <;> simp [hm, Channel.served]
    · by_cases hm : c ∈ l <;> simp [hm, e, Ne.symm e]

/-- A channel of a load that fails (R147, R162). -/
def Channel.loadFailed (c : Channel) : Channel :=
  { c with
    control := { state := .service, outcome := .untested, runCount := 0, resumedCount := 0, candidate := false }
    setup := { enabled := false, settings := none, code := .image, plan := none, dropped := 0 }
    path := { c.path with tracker := allClosed }
    allocation := { c.allocation with reserve := List.replicate 8 [] }
    result := CopiedResult.reset }

/-- A load that fails, part by part. -/
structure State.FailsLoad (s : State) (status : ImageStatus) (t : State) : Prop where
  loader : t.loader = { phase := .finished, status := status, previousCheck := s.loader.previousCheck, image := [],
                        patternTable := [], policy := some .retest }
  chan : ∀ c : Chan, t.chan[c.val] = s.chan[c.val].loadFailed
  entry : ∀ i : Fin 64, t.table[i.val] = s.table[i.val].without fun _ => true
  spare : t.spare = s.spare
  store : t.store = s.store
  arbiter : t.arbiter = s.arbiter
  allocator : t.allocator = s.allocator
  reply : t.reply = s.reply
  spiOut : t.spiOut = s.spiOut
  pending : t.pending = s.pending

/-- The state of a load that fails before its decisions are made. -/
def State.failing (s : State) : State :=
  (s.setLoader { s.loader with patternTable := [], policy := some .retest }).mapChan fun _ c =>
    { c with setup := imageErrorSetup }

theorem State.loadFailed_eq (s : State) (status : ImageStatus) : s.loadFailed status =
    (List.finRange 4).foldl (State.place fun _ => false) ((s.failing.decideResumption fun _ => false).endLoad status none) :=
  rfl

theorem State.loadFailed_failsLoad (s : State) (status : ImageStatus) : s.FailsLoad status (s.loadFailed status) := by
  rw [s.loadFailed_eq]
  generalize hx : s.failing = x
  unfold State.failing at hx
  have hchan (c : Chan) : x.chan[c.val] = { s.chan[c.val] with setup := imageErrorSetup } := by
    rw [← hx, State.mapChan_chan]; rfl
  have hd := x.decideResumption_chan fun _ => false
  have he := x.decideResumption_entry fun _ => false
  obtain ⟨hrest, hspare⟩ := x.decideResumption_rest fun _ => false
  have hy := State.foldl_place_untested (List.finRange 4) ((x.decideResumption fun _ => false).endLoad status none)
    fun c => by
      rw [State.endLoad_chan, hd, if_neg (by simp), hchan]
      rfl
  obtain ⟨hc, hrest', htable, hspare'⟩ := hy
  have hafresh (c : Chan) : ((x.decideResumption fun _ => false).endLoad status none).chan[c.val] = x.chan[c.val].afresh := by
    simp [hd]
  refine { loader := ?_, chan := fun c => ?_, entry := fun i => ?_, spare := ?_, store := ?_, arbiter := ?_
           allocator := ?_, reply := ?_, spiOut := ?_, pending := ?_ }
  · rw [hrest'.loader, State.endLoad, State.setLoader_loader, hrest.loader, ← hx]
    simp
  · rw [hc, if_pos (List.mem_finRange c), hafresh, hchan]
    rfl
  · rw [htable, State.endLoad_table, he, ← hx]
    simp
  · rw [hspare', State.endLoad_spare, hspare, ← hx]; simp
  · rw [hrest'.store, State.endLoad_store, hrest.store, ← hx]; simp
  · rw [hrest'.arbiter, State.endLoad_arbiter, hrest.arbiter, ← hx]; simp
  · rw [hrest'.allocator, State.endLoad_allocator, hrest.allocator, ← hx]; simp
  · rw [hrest'.reply, State.endLoad_reply, hrest.reply, ← hx]; simp
  · rw [hrest'.spiOut, State.endLoad_spiOut, hrest.spiOut, ← hx]; simp
  · rw [hrest'.pending, State.endLoad_pending, hrest.pending, ← hx]; simp

/-! ## A GOOD load up to the placement (R162 to R166) -/

/-- The state of a GOOD load before the first channel is placed, part by part. -/
structure State.Loads (s : State) (image : List Byte) (resumes : Chan → Bool) (t : State) : Prop where
  chan : ∀ c : Chan, ∃ (n : Counter 16) (X : List (List ReserveState)), t.chan[c.val] = { s.chan[c.val] with
    control := if resumes c then s.chan[c.val].control else Control.reset
    result := if resumes c then s.chan[c.val].result else CopiedResult.reset
    setup := { setupOf image (storeOf image) c with dropped := n }
    allocation := { s.chan[c.val].allocation with reserve := X } }
  resuming : ∀ c : Chan, resumes c = true → t.chan[c.val].allocation = s.chan[c.val].allocation
  entry : ∀ i : Fin 64, t.table[i.val] = s.table[i.val].without (fun c => !resumes c) ∧ t.spare[i.val] = s.spare[i.val]
    ∨ s.table[i.val].without (fun c => !resumes c) = .free ∧ ∃ r : Repair, t.table[i.val] = .tentative r
        ∧ resumes r.channel = false ∧ t.chan[r.channel.val].toBeTested = true ∧ r.origin = .carried
  store : t.store = storeOf image
  arbiter : t.arbiter = { s.arbiter with budget := budgetOf image }
  allocator : t.allocator = s.allocator
  loader : t.loader = { phase := .finished, status := .good, previousCheck := some (checkValue image), image := [],
                        patternTable := patternsOf image, policy := some (policyOf image) }
  reply : t.reply = s.reply
  spiOut : t.spiOut = s.spiOut
  pending : t.pending = s.pending

theorem State.decided_chan (s : State) (image : List Byte) (c : Chan) : (s.decided image).chan[c.val] =
    if (s.applyImage image).resumes image c then { s.chan[c.val] with setup := setupOf image (storeOf image) c }
    else { s.chan[c.val] with setup := setupOf image (storeOf image) c : Channel }.afresh := by
  rw [State.decided, State.decideResumption_chan, State.applyImage_chan]

theorem State.loaded_loads (s : State) (image : List Byte) :
    s.Loads image ((s.applyImage image).resumes image) (s.loaded image) := by
  have hdec := s.decided_chan image
  obtain ⟨hrest, hspare⟩ := (s.applyImage image).decideResumption_rest ((s.applyImage image).resumes image)
  have hentry := (s.applyImage image).decideResumption_entry ((s.applyImage image).resumes image)
  have hcar := State.foldl_loadCarried_carries ((s.applyImage image).resumes image) (carriedOf image) (s.decided image)
  generalize hres : (s.applyImage image).resumes image = resumes at *
  change s.Loads image resumes (s.loaded image)
  have hloaded : s.loaded image = ((carriedOf image).foldl (State.loadCarried resumes) (s.decided image)).endLoad .good
    (some (checkValue image)) := by rw [State.loaded, hres]
  have hdecided : s.decided image = (s.applyImage image).decideResumption resumes := by rw [State.decided, hres]
  rw [hloaded]
  generalize (carriedOf image).foldl (State.loadCarried resumes) (s.decided image) = u at hcar
  obtain ⟨hcarries, hresuming, hentries, hcrest⟩ := hcar
  rw [hdecided] at hcrest hentries
  refine { chan := fun c => ?_, resuming := fun c hc => ?_, entry := fun i => ?_, store := ?_, arbiter := ?_
           allocator := ?_, loader := ?_, reply := ?_, spiOut := ?_, pending := ?_ }
  · obtain ⟨n, X, e⟩ := hcarries c
    refine ⟨n, X, ?_⟩
    rw [State.endLoad_chan, e, hdec]
    cases resumes c <;> rfl
  · rw [State.endLoad_chan, hresuming c hc, hdec, if_pos hc]
  · rcases hentries i with ⟨h, h'⟩ | ⟨hf, r, ht, hr, hb, ho⟩
    · exact .inl ⟨h.trans (by rw [hentry, State.applyImage_table]), h'.trans (by rw [hspare, State.applyImage_spare])⟩
    · refine .inr ⟨by rwa [hentry, State.applyImage_table] at hf, r, ht, hr, ?_, ho⟩
      obtain ⟨n, X, e⟩ := hcarries r.channel
      rw [State.endLoad_chan, e, hdecided]
      exact hb
  · rw [State.endLoad_store, hcrest.store, hrest.store, State.applyImage_store]
  · rw [State.endLoad_arbiter, hcrest.arbiter, hrest.arbiter, State.applyImage_arbiter]
  · rw [State.endLoad_allocator, hcrest.allocator, hrest.allocator, State.applyImage_allocator]
  · rw [State.endLoad, State.setLoader_loader, hcrest.loader, hrest.loader, State.applyImage_loader]
    rfl
  · rw [State.endLoad_reply, hcrest.reply, hrest.reply, State.applyImage_reply]
  · rw [State.endLoad_spiOut, hcrest.spiOut, hrest.spiOut, State.applyImage_spiOut]
  · rw [State.endLoad_pending, hcrest.pending, hrest.pending, State.applyImage_pending]

end Sys2Proof.Machine

/-! PROOFS. The laws of a channel's lists: the read return list, the Fail Queue and the tally; and the law of the allocator's
choice (O51 to O53, O56). `ListFrame` is what a step that adds nothing to a list does to the lists. -/

namespace Sys2Proof.Machine

/-! ## Steps that add nothing to a list -/

/-- The read return lists stay; no READ is issued; the Fail Queues only lose their oldest records; the tallies stay or are
emptied. -/
structure State.ListFrame (s t : State) : Prop where
  returns : ∀ c : Chan, t.chan[c.val].path.returns = s.chan[c.val].path.returns
  reading : ∀ c : Chan, t.chan[c.val].engine.reading = true → s.chan[c.val].engine.reading = true
  records : ∀ c : Chan, ∃ k : Nat, t.chan[c.val].queue.records = s.chan[c.val].queue.records.drop k
  tally : ∀ c : Chan, t.chan[c.val].allocation.tally = s.chan[c.val].allocation.tally
    ∨ t.chan[c.val].allocation.tally = []

namespace State.ListFrame

variable {s t u : State}

/-- Channel by channel, the four lists are the same. -/
theorem of_same (h : ∀ c : Chan, t.chan[c.val].path.returns = s.chan[c.val].path.returns
    ∧ t.chan[c.val].engine.outstanding = s.chan[c.val].engine.outstanding
    ∧ t.chan[c.val].queue.records = s.chan[c.val].queue.records
    ∧ t.chan[c.val].allocation.tally = s.chan[c.val].allocation.tally) : s.ListFrame t where
  returns c := (h c).1
  reading c hc := by simpa only [Engine.reading, (h c).2.1] using hc
  records c := ⟨0, (h c).2.2.1⟩
  tally c := .inl (h c).2.2.2

theorem refl (s : State) : s.ListFrame s := .of_same fun _ => ⟨rfl, rfl, rfl, rfl⟩

theorem trans (h : s.ListFrame t) (h' : t.ListFrame u) : s.ListFrame u where
  returns c := (h'.returns c).trans (h.returns c)
  reading c hc := h.reading c (h'.reading c hc)
  records c := by
    obtain ⟨k, e⟩ := h.records c
    obtain ⟨k', e'⟩ := h'.records c
    exact ⟨k + k', by rw [e', e, List.drop_drop]⟩
  tally c := by
    rcases h'.tally c with e | e
    · rw [e]; exact h.tally c
    · exact .inr e

theorem of_sameWork (h : s.SameWork t) : s.ListFrame t :=
  .of_same fun c => ⟨h.returns c, h.outstanding c, h.records c, by rw [h.allocation c]⟩

theorem of_engineFrame (h : s.EngineFrame t) : s.ListFrame t :=
  .of_same fun c => ⟨h.returns c, h.outstanding c, by rw [h.queue c], h.tally c⟩

theorem onControl (s : State) (ch : Chan) (f : Control → Control) : s.ListFrame (s.onControl ch f) := by
  refine .of_same fun c => ?_
  rw [State.onControl_chan]
  split
  · rename_i e; subst e; exact ⟨rfl, rfl, rfl, rfl⟩
  · exact ⟨rfl, rfl, rfl, rfl⟩

theorem enterService (s : State) (ch : Chan) (outcome : RunOutcome) : s.ListFrame (s.enterService ch outcome) := by
  refine .of_same fun c => ?_
  rw [State.enterService_chan]
  split <;> exact ⟨rfl, rfl, rfl, rfl⟩

theorem takeWork (s : State) (ch : Chan) : s.ListFrame (s.takeWork ch) := by
  have hc (c : Chan) := s.takeWork_chan ch c
  refine ⟨fun c => ?_, fun c h => ?_, fun c => ?_, fun c => .inl ?_⟩
  · obtain ⟨_, _, _, e⟩ := hc c; rw [e]
  · obtain ⟨_, _, _, e⟩ := hc c; rw [e] at h; exact h
  · by_cases e : ch = c
    · subst e
      cases hq : s.chan[ch.val].queue.records with
      | cons f rest => exact ⟨1, by rw [State.takeWork_record s ch f rest hq, State.onChan_same]; rfl⟩
      | nil =>
        refine ⟨0, ?_⟩
        cases hr : s.chan[ch.val].allocation.request with
        | some flag =>
          rw [State.takeWork_analysis s ch flag hq hr, State.onAllocation_same]
          exact hq
        | none => simp only [State.takeWork, Fin.getElem_fin, hq, hr, List.drop_nil]
    · refine ⟨0, ?_⟩
      cases hq : s.chan[ch.val].queue.records with
      | cons f rest => rw [State.takeWork_record s ch f rest hq, State.onChan_other _ e, State.setAllocator_chan]; rfl
      | nil =>
        cases hr : s.chan[ch.val].allocation.request with
        | some flag =>
          rw [State.takeWork_analysis s ch flag hq hr, State.onAllocation_other _ e, State.setAllocator_chan]; rfl
        | none => simp only [State.takeWork, Fin.getElem_fin, hq, hr, List.drop_zero]
  · obtain ⟨_, _, _, e⟩ := hc c; rw [e]

theorem choose (s : State) : s.ListFrame s.choose := by
  rcases s.choose_cases with ⟨e, -⟩ | ⟨ch, -, -, e⟩
  · rw [e]; exact .refl s
  · rw [e]; exact .takeWork s ch

theorem prepare (s : State) (ch : Chan) : s.ListFrame (s.prepare ch) := by
  obtain ⟨e, he, h⟩ := s.prepare_eq ch
  rw [h]
  refine ListFrame.trans ?_ (.of_engineFrame (e.takeElementAt_frame ch _))
  have hsame := he.same
  refine ⟨fun c => ?_, fun c hc => ?_, fun c => ⟨0, ?_⟩, fun c => ?_⟩ <;> by_cases hch : ch = c
  · subst hch; rw [hsame]; rfl
  · rw [he.other c hch]
  · subst hch; rw [hsame] at hc; exact hc
  · rwa [he.other c hch] at hc
  · subst hch; rw [hsame]; rfl
  · rw [he.other c hch]; rfl
  · subst hch; rw [hsame]; exact .inr rfl
  · rw [he.other c hch]; exact .inl rfl

theorem prepareIfReady (s : State) (ch : Chan) : s.ListFrame (s.prepareIfReady ch) := by
  unfold State.prepareIfReady
  split
  · exact (prepare s ch).trans (choose _)
  · exact .refl s

theorem place (resumes : Chan → Bool) (s : State) (ch : Chan) : s.ListFrame (State.place resumes s ch) := by
  unfold State.place
  split
  · exact (enterService s ch _).trans (onControl _ ch _)
  · split
    · exact enterService s ch _
    · split
      · exact (onControl s ch _).trans (prepareIfReady _ ch)
      · exact onControl s ch _

theorem foldl_place (resumes : Chan → Bool) (l : List Chan) (s : State) :
    s.ListFrame (l.foldl (State.place resumes) s) := by
  induction l generalizing s with
  | nil => exact .refl s
  | cons ch l ih => exact (place resumes s ch).trans (ih _)

theorem loadGood (s : State) (image : List Byte) (order : List Chan) : s.ListFrame (s.loadGood image order) := by
  rw [s.loadGood_eq]
  refine ListFrame.trans (.of_same fun c => ?_) (foldl_place _ _ _)
  obtain ⟨_, _, e⟩ := (s.loaded_loads image).chan c
  rw [e]
  exact ⟨rfl, rfl, rfl, rfl⟩

theorem loadFailed (s : State) (status : ImageStatus) : s.ListFrame (s.loadFailed status) :=
  .of_same fun c => by rw [(s.loadFailed_failsLoad status).chan c]; exact ⟨rfl, rfl, rfl, rfl⟩

theorem takeAbort (s : State) (ch : Chan) : s.ListFrame (s.takeAbort ch) := by
  obtain ⟨a, ha, h⟩ := s.takeAbort_eq ch
  rw [h]
  refine ListFrame.trans ?_ (choose a)
  have hsame := ha.same
  have marked (e : Engine) : (Option.map (fun o : OutstandingRead => { o with uncompared := true }) e.outstanding = none)
      ∨ ∃ o : OutstandingRead, o.uncompared = true
        ∧ Option.map (fun o : OutstandingRead => { o with uncompared := true }) e.outstanding = some o := by
    cases e.outstanding with
    | none => exact .inl rfl
    | some o => exact .inr ⟨_, rfl, rfl⟩
  refine ⟨fun c => ?_, fun c hc => ?_, fun c => ?_, fun c => .inl ?_⟩ <;> by_cases hch : ch = c
  · subst hch; rw [hsame]; rfl
  · obtain ⟨_, _, e⟩ := ha.other_eq hch; rw [e]
  · subst hch
    rw [hsame] at hc
    by_cases hs : s.chan[ch.val].engine.state = .sweep
    · simp only [Channel.aborted, Engine.reading, hs, if_true] at hc
      rcases marked s.chan[ch.val].engine with e | ⟨o, hu, e⟩
      · rw [e] at hc; cases hc
      · rw [e] at hc; simp [hu] at hc
    · simpa only [Channel.aborted, Engine.reading, hs, if_false] using hc
  · obtain ⟨_, _, e⟩ := ha.other_eq hch; rw [e] at hc; exact hc
  · subst hch; exact ⟨s.chan[ch.val].queue.records.length, by rw [hsame]; simp⟩
  · obtain ⟨_, _, e⟩ := ha.other_eq hch; exact ⟨0, by rw [e]; rfl⟩
  · subst hch; rw [hsame]
  · obtain ⟨_, _, e⟩ := ha.other_eq hch; rw [e]

end State.ListFrame

/-- A step that adds nothing to a list keeps each list's law. -/
theorem State.ListFrame.returnListLaw {s t : State} (h : s.ListFrame t) (hs : s.ReturnListLaw) : t.ReturnListLaw := by
  intro c
  simp only [Fin.getElem_fin, h.returns c]
  exact hs c

theorem State.ListFrame.failQueueLaw {s t : State} (h : s.ListFrame t) (hs : s.FailQueueLaw) : t.FailQueueLaw := by
  intro c
  obtain ⟨k, e⟩ := h.records c
  obtain ⟨hl, hr, hf⟩ := hs c
  simp only [Fin.getElem_fin, e, List.length_drop] at hl hr hf ⊢
  exact ⟨by omega, fun hc => by have := hr (h.reading c hc); omega, fun f hm => hf f (List.mem_of_mem_drop hm)⟩

theorem State.ListFrame.tallyLaw {s t : State} (h : s.ListFrame t) (hs : s.TallyLaw) : t.TallyLaw := by
  intro c
  rcases h.tally c with e | e
  · simp only [Fin.getElem_fin, e]; exact hs c
  · simp [e]

/-! ## What a service does to the lists -/

/-- A service leaves the lists of the path and the queue alone. -/
theorem State.ServiceFrame.lists {s t : State} {ch : Chan} (h : s.ServiceFrame t ch) (c : Chan) :
    t.chan[c.val].path.returns = s.chan[c.val].path.returns
      ∧ t.chan[c.val].engine.outstanding = s.chan[c.val].engine.outstanding
      ∧ t.chan[c.val].queue = s.chan[c.val].queue := by
  obtain ⟨_, -, e⟩ := h.chan c
  rw [e]
  exact ⟨rfl, rfl, rfl⟩

namespace State

theorem onAllocation_tally (s : State) (ch : Chan) (f : ChannelAllocation → ChannelAllocation)
    (h : ∀ a : ChannelAllocation, (f a).tally = a.tally) (c : Chan) :
    (s.onAllocation ch f).chan[c.val].allocation.tally = s.chan[c.val].allocation.tally := by
  rw [State.onAllocation_chan]
  split
  · rename_i e; subst e; exact h _
  · rfl

@[simp] theorem onAllocCounters_tally (s : State) (ch : Chan) (f : AllocationCounters → AllocationCounters) (c : Chan) :
    (s.onAllocCounters ch f).chan[c.val].allocation.tally = s.chan[c.val].allocation.tally := by
  apply s.onAllocation_tally
  exact fun _ => rfl

@[simp] theorem setReserveRow_tally (s : State) (ch : Chan) (bank : Bank) (n : Nat) (st : ReserveState) (c : Chan) :
    (s.setReserveRow ch bank n st).chan[c.val].allocation.tally = s.chan[c.val].allocation.tally := by
  apply s.onAllocation_tally
  exact fun _ => rfl

theorem reserveRecord_tally (s : State) (f : FailRecord) (c : Chan) :
    (s.reserveRecord f).chan[c.val].allocation.tally = s.chan[c.val].allocation.tally := by
  unfold State.reserveRecord State.spoilReserve State.countRaw
  dsimp only
  split <;> simp

theorem remapMarked_tally (ch : Chan) (s : State) (t : TallyEntry) (c : Chan) :
    (State.remapMarked ch s t).chan[c.val].allocation.tally = s.chan[c.val].allocation.tally := by
  unfold State.remapMarked
  split
  · simp
  · dsimp only
    split
    · rename_i hc
      rw [State.setReserveRow_tally, (State.create_frame hc).1, State.releaseWhere_chan]
    · rw [State.releaseWhere_chan]

theorem analyse_tally (s : State) (ch : Chan) (flag : Bool) (c : Chan) :
    (s.analyse ch flag).chan[c.val].allocation.tally = s.chan[c.val].allocation.tally := by
  have hp : (s.promote ch flag).chan[c.val].allocation.tally = s.chan[c.val].allocation.tally := by
    unfold State.promote State.mapReserve
    split
    · apply s.onAllocation_tally
      exact fun _ => rfl
    · rfl
  have hf (l : List TallyEntry) (x : State) : (l.foldl (State.remapMarked ch) x).chan[c.val].allocation.tally
      = x.chan[c.val].allocation.tally := by
    induction l generalizing x with
    | nil => rfl
    | cons t l ih => rw [List.foldl_cons, ih, State.remapMarked_tally]
  unfold State.analyse
  dsimp only
  rw [hf, hp]

/-- The tally of a channel whose new fail is served: the row's step, and the growth that a creation brings (R132, R133). -/
theorem newFailRecord_tally (s : State) (f : FailRecord) (c : Chan) :
    (s.newFailRecord f).chan[c.val].allocation.tally = s.chan[c.val].allocation.tally
      ∨ ∃ l : List TallyEntry, (l = s.chan[c.val].allocation.tally
          ∨ tallyStep s.chan[c.val].allocation.tally f.bank f.row = some l)
        ∧ ((s.newFailRecord f).chan[c.val].allocation.tally = l
          ∨ ∃ n : Nat, (s.newFailRecord f).chan[c.val].allocation.tally = tallyGrow l f.bank f.row n) := by
  unfold State.newFailRecord State.countRaw
  dsimp only
  by_cases hc : f.channel = c
  · subst hc
    have hstep : (s.tallyFail f).chan[f.channel.val].allocation.tally = s.chan[f.channel.val].allocation.tally
        ∨ tallyStep s.chan[f.channel.val].allocation.tally f.bank f.row
          = some (s.tallyFail f).chan[f.channel.val].allocation.tally := by
      unfold State.tallyFail
      rw [State.onAllocation_same]
      cases h : tallyStep s.chan[f.channel.val].allocation.tally f.bank f.row with
      | none => exact .inl rfl
      | some l => exact .inr rfl
    refine .inr ⟨(s.tallyFail f).chan[f.channel.val].allocation.tally, hstep, ?_⟩
    rw [State.onAllocCounters_tally]
    split
    · rename_i h
      rw [State.onAllocation_same, (State.create_frame h).1]
      exact .inr ⟨_, rfl⟩
    · rw [State.onAllocation_same]
      exact .inl rfl
  · left
    rw [State.onAllocCounters_tally]
    split
    · rename_i h
      rw [State.onAllocation_other _ hc, (State.create_frame h).1, State.tallyFail, State.onAllocation_other _ hc]
    · rw [State.onAllocation_other _ hc, State.tallyFail, State.onAllocation_other _ hc]

end State

/-! ## What the engine's return does to the queue (R91, R117, R118) -/

/-- A failure is merged into the youngest record, or appended. -/
theorem FailQueue.place_records (q : FailQueue) (f : FailRecord) :
    (∃ (older : List FailRecord) (youngest : FailRecord), q.records = older ++ [youngest]
        ∧ (q.place f).records = older ++ [youngest.merge f])
      ∨ (q.place f).records = q.records ++ [f] := by
  unfold FailQueue.place
  split
  · rename_i youngest hy
    split
    · obtain ⟨older, ho⟩ := List.getLast?_eq_some_iff.1 hy
      exact .inl ⟨older, youngest, ho, by simp [ho]⟩
    · exact .inr rfl
  · exact .inr rfl

theorem FailQueue.capture_records (q : FailQueue) (f : FailRecord) (position : Nat) :
    (q.capture f position).records = q.records := by
  unfold FailQueue.capture
  split <;> rfl

/-- The Fail Queue after an engine's return is compared (R91, R117 to R119, R123). -/
def State.queueAfter (s : State) (ch : Chan) (o : OutstandingRead) (word : Word) : FailQueue :=
  let failing := s.compareReturn ch o word
  let f := failureOf ch s.chan[ch.val].engine.phase o failing
  if failing = 0 then s.chan[ch.val].queue else (s.chan[ch.val].queue.place f).capture f o.position

/-- An engine's return that is compared is one update of the channel and the end of the operation. -/
theorem State.engineReturn_eq (s : State) (ch : Chan) (o : OutstandingRead) (word : Word) (hu : o.uncompared = false) :
    s.engineReturn ch o word = (s.onChan ch fun c => { c with
      engine := { c.engine with outstanding := none }, queue := s.queueAfter ch o word }).operationDone ch := by
  unfold State.engineReturn State.queueAfter
  simp only [hu, Bool.false_eq_true, if_false]
  split
  · rw [State.onEngine_eq]
    congr 1
  · rw [State.handOff, State.onEngine_eq, State.onQueue_eq, State.onChan_onChan]
    congr 1

/-- Each record of a queue that meets its law, and of a failure placed in it, meets the law of a record. -/
theorem State.queueAfter_law (s : State) (ch : Chan) (o : OutstandingRead) (word : Word)
    (h : ∀ f ∈ s.chan[ch.val].queue.records, 1 ≤ f.repeats.toNat ∧ f.repeats.toNat ≤ 255 ∧ f.failing ≠ 0)
    (hl : s.chan[ch.val].queue.records.length ≤ 15) :
    (s.queueAfter ch o word).records.length ≤ 16
      ∧ ∀ f ∈ (s.queueAfter ch o word).records, 1 ≤ f.repeats.toNat ∧ f.repeats.toNat ≤ 255 ∧ f.failing ≠ 0 := by
  unfold State.queueAfter
  dsimp only
  split
  · exact ⟨by omega, h⟩
  · rename_i hf
    generalize hn : failureOf ch s.chan[ch.val].engine.phase o (s.compareReturn ch o word) = f
    have hfail : f.failing ≠ 0 := by rw [← hn]; exact hf
    have hone : f.repeats = 1 := by rw [← hn]; rfl
    rw [FailQueue.capture_records]
    rcases FailQueue.place_records s.chan[ch.val].queue f with ⟨older, youngest, hr, hp⟩ | hp
    · rw [hr] at h hl
      rw [hp]
      refine ⟨by simpa using Nat.le_succ_of_le hl, fun g hg => ?_⟩
      rw [List.mem_append, List.mem_singleton] at hg
      rcases hg with hg | rfl
      · exact h g (List.mem_append_left _ hg)
      · obtain ⟨h1, h2, h3⟩ := h youngest (by simp)
        refine ⟨?_, by omega, fun e => h3 ?_⟩
        · simp only [FailRecord.merge, Counter.inc_toNat]
          omega
        · exact (BitVec.or_eq_zero_iff.1 e).1
    · rw [hp]
      refine ⟨by simpa using Nat.lt_succ_of_le hl, fun g hg => ?_⟩
      rw [List.mem_append, List.mem_singleton] at hg
      rcases hg with hg | rfl
      · exact h g hg
      · rw [hone]; exact ⟨by decide, by decide, hfail⟩

end Sys2Proof.Machine

namespace Sys2Proof.Machine

/-! ## The steps that add to a list, and the laws of the lists -/

/-- A channel as a reset leaves it holds nothing in its lists. -/
theorem Channel.warm_lists (c : Channel) : c.warm.path.returns = [] ∧ c.warm.engine.outstanding = none
    ∧ c.warm.queue.records = [] ∧ c.warm.allocation.tally = [] ∧ c.warm.allocation.request = none := by
  unfold Channel.warm
  split <;> exact ⟨rfl, rfl, rfl, rfl, rfl⟩

theorem State.warm_chan (s : State) (c : Chan) : s.warm.chan[c.val] = s.chan[c.val].warm := by
  simp [State.warm]

theorem State.reset_chan (c : Chan) : State.reset.chan[c.val] = Channel.reset := by
  simp [State.reset]

theorem oldestWaiting_length {l rest : List ReturnItem} {item : ReturnItem} (h : oldestWaiting l = some (item, rest)) :
    rest.length < l.length := by
  induction l generalizing item rest with
  | nil => cases h
  | cons x l ih =>
    rw [oldestWaiting] at h
    split at h
    · obtain ⟨-, rfl⟩ := Prod.mk.inj (Option.some.inj h)
      simp
    · rw [Option.map_eq_some_iff] at h
      obtain ⟨⟨y, r⟩, hr, he⟩ := h
      obtain ⟨-, rfl⟩ := Prod.mk.inj he
      have := ih hr
      simp only [List.length_cons]
      omega

/-- An update of one channel keeps a law of every channel if it keeps that channel's. -/
theorem State.forall_onChan {P : Channel → Prop} {s : State} {ch : Chan} {f : Channel → Channel}
    (h : ∀ c : Chan, P s.chan[c.val]) (hf : P (f s.chan[ch.val])) (c : Chan) : P (s.onChan ch f).chan[c.val] := by
  rw [State.onChan_chan]
  split
  · exact hf
  · exact h c

/-- What a step does to the lists: at most one of them grows, and by one item or record, or in the tally by one row's step. -/
inductive State.ListStep (s : State) : State → Prop where
  | frame {t : State} (h : s.ListFrame t) : State.ListStep s t
  | empty {t : State} (h : ∀ c : Chan, t.chan[c.val].path.returns = [] ∧ t.chan[c.val].engine.outstanding = none
      ∧ t.chan[c.val].queue.records = [] ∧ t.chan[c.val].allocation.tally = []) : State.ListStep s t
  | append (ch : Chan) (item : ReturnItem) (hl : s.chan[ch.val].path.returns.length < 32)
      (hi : s.chan[ch.val].path.returns = [] → item ≠ .poison) : State.ListStep s (s.appendReturn ch item)
  | answer (ch : Chan) (item : ReturnItem) (rest : List ReturnItem)
      (hr : oldestWaiting s.chan[ch.val].path.returns = some (item, rest)) :
      State.ListStep s (s.onPath ch fun p => { p with returns := rest.dropWhile fun x => x == .poison })
  | compare {t : State} (ch : Chan) (o : OutstandingRead) (word : Word) (hr : s.chan[ch.val].engine.reading = true)
      (h : (s.onChan ch fun c => { c with
        engine := { c.engine with outstanding := none }, queue := s.queueAfter ch o word }).ListFrame t) :
      State.ListStep s t
  | issue (ch : Chan) (o : OutstandingRead) (hq : s.chan[ch.val].queue.records.length < 16) :
      State.ListStep s (s.onEngine ch fun e => { e with outstanding := some o })
  | serve {u t : State} (f : FailRecord)
      (hu : ∀ c : Chan, u.chan[c.val].path.returns = s.chan[c.val].path.returns
        ∧ u.chan[c.val].engine.outstanding = s.chan[c.val].engine.outstanding ∧ u.chan[c.val].queue = s.chan[c.val].queue
        ∧ (u.chan[c.val].allocation.tally = s.chan[c.val].allocation.tally
          ∨ ∃ l : List TallyEntry, (l = s.chan[c.val].allocation.tally
              ∨ tallyStep s.chan[c.val].allocation.tally f.bank f.row = some l)
            ∧ (u.chan[c.val].allocation.tally = l ∨ ∃ n : Nat, u.chan[c.val].allocation.tally = tallyGrow l f.bank f.row n)))
      (h : u.ListFrame t) : State.ListStep s t

theorem State.serveRecord_tally (s : State) (f : FailRecord) (kind : RecordClass) (c : Chan) :
    (s.serveRecord f kind).chan[c.val].allocation.tally = s.chan[c.val].allocation.tally
      ∨ ∃ l : List TallyEntry, (l = s.chan[c.val].allocation.tally
          ∨ tallyStep s.chan[c.val].allocation.tally f.bank f.row = some l)
        ∧ ((s.serveRecord f kind).chan[c.val].allocation.tally = l
          ∨ ∃ n : Nat, (s.serveRecord f kind).chan[c.val].allocation.tally = tallyGrow l f.bank f.row n) := by
  cases kind with
  | verify => exact .inl (s.onAllocCounters_tally _ _ c)
  | reserveRow => exact .inl (s.reserveRecord_tally f c)
  | covered => exact .inl (s.onAllocCounters_tally _ _ c)
  | newFail => exact s.newFailRecord_tally f c

theorem State.ListFrame.idleAllocator (s : State) : s.ListFrame s.idleAllocator :=
  .of_same fun _ => ⟨rfl, rfl, rfl, rfl⟩

/-- Every way a step goes is a step of the lists from a state with the same work. -/
theorem State.Goes.listStep {c : Instr} {s t : State} (h : s.Goes c t) : ∃ u : State, s.SameWork u ∧ u.ListStep t := by
  cases h with
  | same h => exact ⟨s, .refl s, .frame (.of_sameWork h)⟩
  | powerOn =>
    exact ⟨s, .refl s, .empty fun d => by
      rw [State.setPending_chan, State.reset_chan]; exact ⟨rfl, rfl, rfl, rfl⟩⟩
  | warm =>
    refine ⟨s, .refl s, .empty fun d => ?_⟩
    obtain ⟨h1, h2, h3, h4, -⟩ := s.chan[d.val].warm_lists
    rw [State.warm_chan]
    exact ⟨h1, h2, h3, h4⟩
  | loadFailed status h => exact ⟨_, h, .frame (.loadFailed _ status)⟩
  | loadGood image order h => exact ⟨_, h, .frame (.loadGood _ image order)⟩
  | retest ch _ h => exact ⟨_, h, .frame ((ListFrame.onControl _ ch _).trans (.prepareIfReady _ ch))⟩
  | abort ch h => exact ⟨_, h, .frame (.takeAbort _ ch)⟩
  | prepare ch h => exact ⟨_, h, .frame ((ListFrame.prepare _ ch).trans (.choose _))⟩
  | append ch item h hl hi =>
    rw [← h.returns ch] at hl hi
    exact ⟨_, h, .append ch item hl hi⟩
  | answer ch item rest h hr =>
    rw [← h.returns ch] at hr
    exact ⟨_, h, .answer ch item rest hr⟩
  | discard ch o h ho hu =>
    refine ⟨_, h, .frame (ListFrame.trans ⟨fun d => ?_, fun d hd => ?_, fun d => ⟨0, ?_⟩, fun d => .inl ?_⟩ (.choose _))⟩ <;>
      rw [State.onEngine_chan] at * <;> split at * <;> rename_i e
    · subst e; rfl
    · rfl
    · cases hd
    · exact hd
    · subst e; rfl
    · rfl
    · subst e; rfl
    · rfl
  | compare ch o word h ho hu =>
    refine ⟨_, h, .compare ch o word ?_ ?_⟩
    · rw [Engine.reading, h.outstanding ch, ho]
      simp [hu]
    · rw [State.engineReturn_eq _ _ _ _ hu]
      exact (ListFrame.of_engineFrame (operationDone_frame _ ch)).trans (.choose _)
  | write ch h => exact ⟨_, h, .frame ((ListFrame.of_engineFrame (operationDone_frame _ ch)).trans (.choose _))⟩
  | stall ch h => exact ⟨_, h, .frame (.of_engineFrame (.onEngine _ ch _ rfl))⟩
  | issue ch o h _ _ hq =>
    rw [← h.records ch] at hq
    exact ⟨_, h, .issue ch o hq⟩
  | holdEnds ch i h =>
    exact ⟨_, h, .frame ((ListFrame.of_engineFrame (takeElementAt_frame _ ch i)).trans (.choose _))⟩
  | @service u f kind h =>
    refine ⟨u, h, .serve (u := u.serveRecord f kind) f (fun d => ?_)
      (((ListFrame.idleAllocator _).trans (.of_engineFrame (drainTest_frame _ f.channel))).trans (.choose _))⟩
    obtain ⟨h1, h2, h3⟩ := (u.serveRecord_frame f kind).lists d
    exact ⟨h1, h2, h3, u.serveRecord_tally f kind d⟩
  | @analysis u ch flag h =>
    refine ⟨u, h, .frame (ListFrame.trans (.of_same fun d => ?_)
      (((ListFrame.idleAllocator (u.analyse ch flag)).trans (.of_engineFrame (analysisReport_frame _ ch))).trans
        (.choose _)))⟩
    obtain ⟨h1, h2, h3⟩ := (u.analyse_frame ch flag).lists d
    exact ⟨h1, h2, congrArg FailQueue.records h3, u.analyse_tally ch flag d⟩

/-- The law of one channel's Fail Queue. -/
def Channel.QueueLaw (c : Channel) : Prop :=
  c.queue.records.length ≤ 16 ∧ (c.engine.reading = true → c.queue.records.length ≤ 15)
    ∧ ∀ f ∈ c.queue.records, 1 ≤ f.repeats.toNat ∧ f.repeats.toNat ≤ 255 ∧ f.failing ≠ 0

/-- The law of one channel's tally. -/
def Channel.RowsLaw (c : Channel) : Prop :=
  c.allocation.tally.length ≤ 8 ∧ (c.allocation.tally.map fun t => (t.bank, t.row)).Nodup
    ∧ ∀ t ∈ c.allocation.tally, t.count.toNat ≤ 15

/-- A row's step keeps a tally of at most 8 rows, no row twice (R132). -/
theorem tallyStep_rows {l l' : List TallyEntry} {bank : Bank} {row : Row}
    (h : tallyStep l bank row = some l') (hl : l.length ≤ 8) (hn : (l.map fun t => (t.bank, t.row)).Nodup) :
    l'.length ≤ 8 ∧ (l'.map fun t => (t.bank, t.row)).Nodup := by
  unfold tallyStep at h
  dsimp only at h
  split at h
  · cases h; exact ⟨hl, hn⟩
  · rename_i hany
    have hnew : (bank, row) ∉ l.map fun t => (t.bank, t.row) := by
      intro hm
      obtain ⟨t, ht, e⟩ := List.mem_map.1 hm
      obtain ⟨rfl, rfl⟩ := Prod.mk.inj e
      exact hany ((tally_any_ofRow l _ _).2 ⟨t, ht, rfl, rfl⟩)
    have joins (k : List TallyEntry) (hk : k.Sublist l) :
        ((k ++ [({ bank := bank, row := row, count := 0, mustRemap := false } : TallyEntry)]).map fun t =>
          (t.bank, t.row)).Nodup := by
      rw [List.map_append, List.map_singleton, List.nodup_append]
      refine ⟨hn.sublist (hk.map _), by simp, fun x hx y hy => ?_⟩
      rw [List.mem_singleton] at hy
      rintro rfl
      exact hnew (hy ▸ (hk.map _).subset hx)
    split at h
    · rename_i hlt
      cases h
      exact ⟨by simpa [Config.tallyDepth] using hlt, joins l (List.Sublist.refl l)⟩
    · split at h
      · rename_i i hi
        cases h
        obtain ⟨hlt, -⟩ := List.findIdx?_eq_some_iff_getElem.1 hi
        refine ⟨?_, joins _ (List.eraseIdx_sublist l i)⟩
        rw [List.length_append, List.length_eraseIdx_of_lt hlt, List.length_singleton]
        omega
      · cases h

namespace State.ListStep

variable {s t : State}

theorem returnListLaw (h : s.ListStep t) (hs : s.ReturnListLaw) : t.ReturnListLaw := by
  cases h with
  | frame h => exact h.returnListLaw hs
  | empty h => exact fun c => by simp [(h c).1]
  | append ch item hl hi =>
    refine State.forall_onChan (P := fun c => c.path.returns.length ≤ 32 ∧ c.path.returns.head? ≠ some .poison) hs ⟨?_, ?_⟩
    · simpa using hl
    · cases hr : s.chan[ch.val].path.returns with
      | nil => simpa [hr] using hi hr
      | cons x l => simpa [hr] using (hs ch).2
  | answer ch item rest hr =>
    refine State.forall_onChan (P := fun c => c.path.returns.length ≤ 32 ∧ c.path.returns.head? ≠ some .poison) hs ⟨?_, ?_⟩
    · have h32 := (hs ch).1
      have hlt := oldestWaiting_length hr
      have hle := (List.dropWhile_sublist (fun x => x == ReturnItem.poison) (l := rest)).length_le
      simp only [Fin.getElem_fin] at h32
      exact hle.trans (by omega)
    · intro he
      have := List.head?_dropWhile_not (fun x => x == ReturnItem.poison) rest
      rw [he] at this
      simp at this
  | compare ch o word hr h =>
    refine h.returnListLaw fun c => ?_
    exact State.forall_onChan (P := fun c => c.path.returns.length ≤ 32 ∧ c.path.returns.head? ≠ some .poison) hs (hs ch) c
  | issue ch o hq =>
    exact State.forall_onChan (P := fun c => c.path.returns.length ≤ 32 ∧ c.path.returns.head? ≠ some .poison) hs (hs ch)
  | serve f hu h =>
    refine h.returnListLaw fun c => ?_
    simp only [Fin.getElem_fin, (hu c).1]
    exact hs c

theorem failQueueLaw (h : s.ListStep t) (hs : s.FailQueueLaw) : t.FailQueueLaw := by
  cases h with
  | frame h => exact h.failQueueLaw hs
  | empty h =>
    intro c
    obtain ⟨-, ho, hq, -⟩ := h c
    simp [hq, ho, Engine.reading]
  | append ch item hl hi => exact State.forall_onChan (P := Channel.QueueLaw) hs (hs ch)
  | answer ch item rest hr => exact State.forall_onChan (P := Channel.QueueLaw) hs (hs ch)
  | compare ch o word hr h =>
    refine h.failQueueLaw fun c => State.forall_onChan (P := Channel.QueueLaw) hs ?_ c
    obtain ⟨-, h15, hrec⟩ := hs ch
    obtain ⟨hl, hf⟩ := s.queueAfter_law ch o word hrec (h15 hr)
    exact ⟨hl, fun hc => absurd hc Bool.false_ne_true, hf⟩
  | issue ch o hq =>
    obtain ⟨hl, -, hf⟩ := hs ch
    exact State.forall_onChan (P := Channel.QueueLaw) hs ⟨hl, fun _ => Nat.le_of_lt_succ hq, hf⟩
  | serve f hu h =>
    refine h.failQueueLaw fun c => ?_
    obtain ⟨-, ho, hq, -⟩ := hu c
    simp only [Fin.getElem_fin, Engine.reading, ho, hq]
    exact hs c

theorem tallyLaw (h : s.ListStep t) (hs : s.TallyLaw) : t.TallyLaw := by
  have count (e : TallyEntry) : e.count.toNat ≤ 15 := Nat.le_of_lt_succ e.count.isLt
  cases h with
  | frame h => exact h.tallyLaw hs
  | empty h => exact fun c => by simp [(h c).2.2.2]
  | append ch item hl hi => exact State.forall_onChan (P := Channel.RowsLaw) hs (hs ch)
  | answer ch item rest hr => exact State.forall_onChan (P := Channel.RowsLaw) hs (hs ch)
  | compare ch o word hr h =>
    refine h.tallyLaw (State.forall_onChan (P := Channel.RowsLaw) hs ?_)
    exact hs ch
  | issue ch o hq => exact State.forall_onChan (P := Channel.RowsLaw) hs (hs ch)
  | @serve u _ f hu h =>
    refine h.tallyLaw fun c => ?_
    obtain ⟨hl, hn, -⟩ := hs c
    obtain ⟨-, -, -, hrows⟩ := hu c
    simp only [Fin.getElem_fin] at hl hn ⊢
    suffices hw : u.chan[c.val].allocation.tally.length ≤ 8
        ∧ (u.chan[c.val].allocation.tally.map fun t => (t.bank, t.row)).Nodup from ⟨hw.1, hw.2, fun e _ => count e⟩
    rcases hrows with e | ⟨l, hstep, hgrow⟩
    · rw [e]; exact ⟨hl, hn⟩
    · have hrow : l.length ≤ 8 ∧ (l.map fun t => (t.bank, t.row)).Nodup := by
        rcases hstep with rfl | hstep
        · exact ⟨hl, hn⟩
        · exact tallyStep_rows hstep hl hn
      rcases hgrow with e | ⟨n, e⟩
      · rwa [e]
      · rw [e, tallyGrow_rows, tallyGrow, List.length_map]
        exact hrow

end State.ListStep

/-- Settles O51. -/
theorem stepKeepsReturnListLaw : Obligations.StepKeepsReturnListLaw :=
  State.step_keeps State.ReturnListLaw.congr fun h hs => by
    obtain ⟨u, hu, hstep⟩ := h.listStep
    exact hstep.returnListLaw (hs.congr hu)

/-- Settles O52. -/
theorem stepKeepsFailQueueLaw : Obligations.StepKeepsFailQueueLaw :=
  State.step_keeps State.FailQueueLaw.congr fun h hs => by
    obtain ⟨u, hu, hstep⟩ := h.listStep
    exact hstep.failQueueLaw (hs.congr hu)

/-- Settles O53. -/
theorem stepKeepsTallyLaw : Obligations.StepKeepsTallyLaw :=
  State.step_keeps State.TallyLaw.congr fun h hs => by
    obtain ⟨u, hu, hstep⟩ := h.listStep
    exact hstep.tallyLaw (hs.congr hu)

end Sys2Proof.Machine

/-! PROOFS. The law of the allocator's choice (R126), and every law at power-on reset (O56, O58). -/

namespace Sys2Proof.Machine

/-! ## The choice law -/

/-- Steps that leave the allocator and every channel's work keep the law of its choice. -/
theorem State.ChoiceLaw.of_same {s t : State} (ha : t.allocator = s.allocator)
    (hw : ∀ c : Chan, t.chan[c.val].hasWork = s.chan[c.val].hasWork) (hs : s.ChoiceLaw) : t.ChoiceLaw := by
  intro hi c
  rw [ha] at hi
  exact (hw c).trans (hs hi c)

theorem State.ChoiceLaw.onChan {s : State} {ch : Chan} {f : Channel → Channel}
    (hf : (f s.chan[ch.val]).hasWork = s.chan[ch.val].hasWork) (hs : s.ChoiceLaw) : (s.onChan ch f).ChoiceLaw := by
  refine State.ChoiceLaw.of_same (s := s) rfl (fun c => ?_) hs
  rw [State.onChan_chan]
  split
  · rename_i e; subst e; exact hf
  · rfl

theorem State.ChoiceLaw.prepareIfReady {s : State} (ch : Chan) (hs : s.ChoiceLaw) : (s.prepareIfReady ch).ChoiceLaw := by
  unfold State.prepareIfReady
  split
  · exact State.choose_choiceLaw _
  · exact hs

theorem State.ChoiceLaw.enterService {s : State} (ch : Chan) (outcome : RunOutcome) (hs : s.ChoiceLaw) :
    (s.enterService ch outcome).ChoiceLaw :=
  State.ChoiceLaw.onChan rfl (State.ChoiceLaw.onChan rfl hs)

theorem State.ChoiceLaw.place {s : State} (resumes : Chan → Bool) (ch : Chan) (hs : s.ChoiceLaw) :
    (State.place resumes s ch).ChoiceLaw := by
  unfold State.place
  split
  · exact State.ChoiceLaw.onChan rfl (hs.enterService ch _)
  · split
    · exact hs.enterService ch _
    · split
      · exact State.ChoiceLaw.prepareIfReady ch (State.ChoiceLaw.onChan rfl hs)
      · exact State.ChoiceLaw.onChan rfl hs

theorem State.ChoiceLaw.foldl_place (resumes : Chan → Bool) (l : List Chan) {s : State} (hs : s.ChoiceLaw) :
    (l.foldl (State.place resumes) s).ChoiceLaw := by
  induction l generalizing s with
  | nil => exact hs
  | cons ch l ih => exact ih (hs.place resumes ch)

/-- Every way a step goes keeps the law of the allocator's choice: it ends with a choice, or adds no work. -/
theorem State.Goes.choiceLaw {c : Instr} {s t : State} (h : s.Goes c t) (hs : s.ChoiceLaw) : t.ChoiceLaw := by
  cases h with
  | same h => exact hs.congr h
  | powerOn =>
    intro _ d
    rw [Fin.getElem_fin, State.setPending_chan, State.reset_chan]
    rfl
  | warm =>
    intro _ d
    obtain ⟨-, -, hq, -, hr⟩ := s.chan[d.val].warm_lists
    rw [Fin.getElem_fin, State.warm_chan, Channel.hasWork_eq_false]
    exact ⟨hq, hr⟩
  | @loadFailed u status h =>
    have hf := u.loadFailed_failsLoad status
    exact (hs.congr h).of_same hf.allocator fun d => by rw [hf.chan d]; rfl
  | @loadGood u image order h =>
    rw [State.loadGood_eq]
    have hl := u.loaded_loads image
    refine State.ChoiceLaw.foldl_place _ _ ((hs.congr h).of_same hl.allocator fun d => ?_)
    obtain ⟨_, _, e⟩ := hl.chan d
    rw [e]; rfl
  | retest ch _ h => exact State.ChoiceLaw.prepareIfReady ch (State.ChoiceLaw.onChan rfl (hs.congr h))
  | @abort u ch h =>
    obtain ⟨a, -, e⟩ := u.takeAbort_eq ch
    rw [e]; exact a.choose_choiceLaw
  | append ch item h => exact State.ChoiceLaw.onChan rfl (hs.congr h)
  | answer ch item rest h => exact State.ChoiceLaw.onChan rfl (hs.congr h)
  | stall ch h => exact State.ChoiceLaw.onChan rfl (hs.congr h)
  | issue ch o h => exact State.ChoiceLaw.onChan rfl (hs.congr h)
  | prepare ch h | discard ch o h | compare ch o word h | write ch h | holdEnds ch i h | service f kind h
  | analysis ch flag h => exact State.choose_choiceLaw _

/-- Settles O56. -/
theorem stepKeepsChoiceLaw : Obligations.StepKeepsChoiceLaw :=
  State.step_keeps State.ChoiceLaw.congr State.Goes.choiceLaw

/-! ## The laws at reset (R22, R45, R111, R116, R125, R132, R144) -/

theorem State.reset_table (i : Fin 64) : State.reset.table[i.val] = .free := by
  simp [State.reset]

theorem ChannelAllocation.reset_reserve (bank : Bank) (j : Nat) :
    reserveAt ChannelAllocation.reset.reserve bank j = none := by
  simp [reserveAt, ChannelAllocation.reset]

/-- Settles O58. -/
theorem lawsHoldAtReset : Obligations.LawsHoldAtReset := by
  have hwait : State.reset.WaitsForLoader := fun _ c => by
    rw [Fin.getElem_fin, State.reset_chan]; exact .inl rfl
  have htable (i : Fin 64) : State.reset.table[i] = .free := State.reset_table i
  have hchan (c : Chan) : State.reset.chan[c] = Channel.reset := State.reset_chan c
  have hholds (c : Chan) : State.reset.arbiter.holders[c] = false := by simp [State.reset, Arbiter.reset]
  have hwaits (c : Chan) : State.reset.arbiter.waiting[c] = false := by simp [State.reset, Arbiter.reset]
  refine ⟨fun c => ?_, fun c => ?_, fun c => ?_, ⟨hwait, fun i p h => ?_⟩, fun c bank j => ⟨?_, fun i _ h => ?_⟩,
    fun _ c => ?_, hwait, fun c => ?_, ?_, fun i => ?_⟩
  · simp [hchan, Channel.reset, Path.reset]
  · simp [hchan, Channel.reset, FailQueue.reset, Engine.reset, Engine.reading]
  · simp [hchan, Channel.reset, ChannelAllocation.reset]
  · rw [htable] at h; cases h
  · rw [hchan]
    simp [Channel.reset, ChannelAllocation.reset_reserve, State.reset_table, Entry.holdsReserve, Entry.repair?]
  · rw [htable] at h; cases h
  · rw [hchan]; rfl
  · simp [State.ChannelRunLaw, Channel.reset, Engine.reset, EngineState.active, Engine.reading,
      FailQueue.reset, ChannelAllocation.reset, Control.reset, State.reset, Allocator.reset, AllocatorItem.serves,
      AllocatorItem.analyses]
  · refine ⟨by decide, by decide, by decide, fun c h => ?_, fun c h => ?_, fun c h => ?_, fun h => ?_, fun c h => ?_⟩
    · rw [hholds] at h; cases h
    · rw [hwaits] at h; cases h
    · rw [hchan] at h; cases h
    · exact absurd h (by decide)
    · rw [hwaits] at h; cases h
  · rw [htable]; trivial

end Sys2Proof.Machine

/-! PROOFS. The law of the pattern lines (R1, R21): what services do to entries, and the placement of the channels seen by the
lines they borrow (O54). -/

namespace Sys2Proof.Machine

/-! ## What a service does to an entry -/

/-- A service of a channel leaves an entry, or frees one of the channel's, or puts a TENTATIVE one of it in its place or in a
FREE entry's. -/
def Entry.ServedFor (ch : Chan) (e e' : Entry) : Prop :=
  e' = e ∨ (e = .free ∨ e.belongsTo ch = true) ∧ (e' = .free ∨ ∃ r : Repair, e' = .tentative r ∧ r.channel = ch)

namespace Entry.ServedFor

variable {ch : Chan} {e e' e'' : Entry}

theorem trans (h : Entry.ServedFor ch e e') (h' : Entry.ServedFor ch e' e'') : Entry.ServedFor ch e e'' := by
  rcases h' with rfl | ⟨h1, h2⟩
  · exact h
  · rcases h with rfl | ⟨h3, -⟩
    · exact .inr ⟨h1, h2⟩
    · exact .inr ⟨h3, h2⟩

/-- A line that is lent afterwards was lent before. -/
theorem lent (h : Entry.ServedFor ch e e') {p : Fin 8} (hl : e' = .lent p) : e = .lent p := by
  subst hl
  rcases h with h | ⟨-, h | ⟨r, h, -⟩⟩
  · exact h.symm
  · cases h
  · cases h

end Entry.ServedFor

namespace State

/-- A service's entries. -/
def ServedEntries (s t : State) (ch : Chan) : Prop := ∀ i : Fin 64, Entry.ServedFor ch s.table[i.val] t.table[i.val]

variable {s t u : State} {ch : Chan}

theorem ServedEntries.of_table (h : t.table = s.table) : s.ServedEntries t ch := fun _ => .inl (by rw [h])

theorem ServedEntries.trans (h : s.ServedEntries t ch) (h' : t.ServedEntries u ch) : s.ServedEntries u ch :=
  fun i => (h i).trans (h' i)

theorem releaseWhere_servedEntries (s : State) {p : Repair → Bool} (hp : ∀ r, p r = true → r.channel = ch) :
    s.ServedEntries (s.releaseWhere p) ch := by
  intro i
  rw [State.releaseWhere_entry]
  cases hr : s.table[i.val].repair? with
  | none => exact .inl rfl
  | some r =>
    cases h : p r with
    | false => exact .inl (by simp [h])
    | true => exact .inr ⟨.inr (by simp [Entry.belongsTo, hr, hp r h]), .inl (by simp [h])⟩

theorem create_servedEntries {r : Repair} (h : s.create r = some t) (hc : r.channel = ch) : s.ServedEntries t ch := by
  obtain ⟨i, q, hfree, hq, hi, hothers⟩ := State.create_entry h
  intro j
  by_cases hj : j = i
  · subst hj
    exact .inr ⟨.inl hfree, .inr ⟨q, hi, by rw [hq, Repair.normalised_channel, hc]⟩⟩
  · exact .inl (hothers j hj).1

theorem reserveRecord_servedEntries (s : State) (f : FailRecord) : s.ServedEntries (s.reserveRecord f) f.channel := by
  unfold State.reserveRecord
  dsimp only
  split
  · exact .of_table rfl
  · exact .of_table rfl
  · exact .of_table rfl
  · refine ServedEntries.trans (t := s.countRaw f 0) (.of_table rfl) (.trans (releaseWhere_servedEntries _ fun r h => ?_)
      (.of_table rfl))
    simp only [Repair.holdsReserve, Bool.and_eq_true, beq_iff_eq] at h
    exact h.1.1
  · exact .of_table rfl

theorem newFailRecord_servedEntries (s : State) (f : FailRecord) : s.ServedEntries (s.newFailRecord f) f.channel := by
  unfold State.newFailRecord
  dsimp only
  split
  · rename_i h
    refine ServedEntries.trans (t := s.tallyFail f) (.of_table rfl) ((create_servedEntries h ?_).trans (.of_table rfl))
    rfl
  · exact .of_table rfl

theorem serveRecord_servedEntries (s : State) (f : FailRecord) (kind : RecordClass) :
    s.ServedEntries (s.serveRecord f kind) f.channel := by
  cases kind with
  | verify => exact .of_table rfl
  | reserveRow => exact s.reserveRecord_servedEntries f
  | covered => exact .of_table rfl
  | newFail => exact s.newFailRecord_servedEntries f

theorem remapMarked_servedEntries (ch : Chan) (s : State) (t : TallyEntry) :
    s.ServedEntries (State.remapMarked ch s t) ch := by
  unfold State.remapMarked
  split
  · exact .of_table rfl
  · have hr := releaseWhere_servedEntries (ch := ch) s (p := fun r => r.ofRow ch t.bank t.row && r.isSubstitute)
      fun r h => by
        simp only [Repair.ofRow, Bool.and_eq_true, beq_iff_eq] at h
        exact h.1.1.1
    dsimp only
    split
    · rename_i h
      exact hr.trans ((create_servedEntries h rfl).trans (.of_table rfl))
    · exact hr

theorem analyse_servedEntries (s : State) (ch : Chan) (flag : Bool) : s.ServedEntries (s.analyse ch flag) ch := by
  have hf (l : List TallyEntry) (x : State) : x.ServedEntries (l.foldl (State.remapMarked ch) x) ch := by
    induction l generalizing x with
    | nil => exact .of_table rfl
    | cons t l ih => exact (remapMarked_servedEntries ch x t).trans (ih _)
  refine ServedEntries.trans (t := s.promote ch flag) (.of_table ?_) (hf _ _)
  unfold State.promote
  split <;> rfl

end State

/-! ## What a service leaves of a channel -/

namespace State.ServiceFrame

variable {s t : State} {ch : Chan}

theorem control (h : s.ServiceFrame t ch) (c : Chan) : t.chan[c.val].control = s.chan[c.val].control := by
  obtain ⟨_, -, e⟩ := h.chan c; rw [e]

theorem setup (h : s.ServiceFrame t ch) (c : Chan) : t.chan[c.val].setup = s.chan[c.val].setup := by
  obtain ⟨_, -, e⟩ := h.chan c; rw [e]

theorem engine (h : s.ServiceFrame t ch) (c : Chan) : t.chan[c.val].engine = s.chan[c.val].engine := by
  obtain ⟨_, -, e⟩ := h.chan c; rw [e]

theorem queue (h : s.ServiceFrame t ch) (c : Chan) : t.chan[c.val].queue = s.chan[c.val].queue := by
  obtain ⟨_, -, e⟩ := h.chan c; rw [e]

theorem requests (h : s.ServiceFrame t ch) (c : Chan) :
    t.chan[c.val].allocation.request = s.chan[c.val].allocation.request := by
  obtain ⟨_, hr, e⟩ := h.chan c; rw [e, ← hr]

end State.ServiceFrame

end Sys2Proof.Machine

namespace Sys2Proof.Machine

/-! ## The law of the pattern lines -/

/-- A channel that has begun its run was in no state of `WaitsForLoader`. -/
theorem State.WaitsForLoader.finished {s : State} (h : s.WaitsForLoader) {ch : Chan}
    (hs : s.chan[ch.val].control.state.running = true) : s.loader.phase = .finished := by
  by_contra hp
  rcases h hp ch with e | e <;> simp only [Fin.getElem_fin] at e <;> rw [e] at hs <;> cases hs

/-- A LENT entry's line is its pattern's, and some channel that runs names it. -/
def State.LinesBorrowed (s : State) : Prop :=
  ∀ (i : Fin 64) (p : Fin 8), s.table[i.val] = .lent p → i.val = 56 + p.val ∧ s.Borrows p

theorem State.patternLineLaw_iff (s : State) : s.PatternLineLaw ↔ s.WaitsForLoader ∧ s.LinesBorrowed := Iff.rfl

namespace State.LinesBorrowed

variable {s t : State}

/-- Lines stay borrowed while the states, the settings and the LENT entries of the others stand. -/
theorem of_control (hs : s.LinesBorrowed)
    (hc : ∀ c : Chan, t.chan[c.val].control.state = s.chan[c.val].control.state)
    (hn : ∀ c : Chan, t.chan[c.val].setup = s.chan[c.val].setup)
    (ht : ∀ (i : Fin 64) (p : Fin 8), t.table[i.val] = .lent p → s.table[i.val] = .lent p) : t.LinesBorrowed := by
  intro i p h
  obtain ⟨hi, c, hrun, hname⟩ := hs i p (ht i p h)
  exact ⟨hi, c, by rwa [hc], by simpa only [Channel.names, hn] using hname⟩

theorem of_engineFrame (h : s.EngineFrame t) (hs : s.LinesBorrowed) : t.LinesBorrowed := by
  intro i p hl
  obtain ⟨hi, hb⟩ := hs i p (h.lent hl)
  exact ⟨hi, h.borrows i p hl hb⟩

theorem onControl (ch : Chan) (f : Control → Control)
    (h : s.chan[ch.val].control.state.running = true → (f s.chan[ch.val].control).state.running = true)
    (hs : s.LinesBorrowed) : (s.onControl ch f).LinesBorrowed := by
  intro i p hl
  obtain ⟨hi, c, hrun, hname⟩ := hs i p hl
  refine ⟨hi, c, ?_, ?_⟩
  · rw [State.onControl_chan]
    split
    · rename_i e; subst e; exact h hrun
    · exact hrun
  · rw [State.onControl_chan]
    split
    · rename_i e; subst e; exact hname
    · exact hname

theorem choose (hs : s.LinesBorrowed) : s.choose.LinesBorrowed :=
  hs.of_control (fun c => by rw [s.choose_control]) s.choose_setup fun i p h => by rwa [s.choose_table] at h

theorem prepare (ch : Chan) (hs : s.LinesBorrowed) :
    (s.prepare ch).LinesBorrowed := by
  obtain ⟨e, he, h⟩ := s.prepare_eq ch
  rw [h]
  refine of_engineFrame (e.takeElementAt_frame ch _) ?_
  have hsame := he.same
  have hself : e.chan[ch.val].control.state.running = true := by rw [hsame]; rfl
  have hname (p : Fin 8) : e.chan[ch.val].names p = s.chan[ch.val].names p := by rw [hsame]; rfl
  intro i p hl
  rcases he.entry i with ⟨ht, -⟩ | ⟨q, hn, rfl, -, ht⟩
  · rw [ht] at hl
    have hold : s.table[i.val] = .lent p := by
      cases hx : s.table[i.val] with
      | free => simp [hx, Entry.reopen, Entry.repair?] at hl
      | lent q => simpa [hx, Entry.reopen, Entry.repair?] using hl
      | tentative r => simp only [hx, Entry.reopen, Entry.repair?] at hl; split at hl <;> cases hl
      | active r => simp only [hx, Entry.reopen, Entry.repair?] at hl; split at hl <;> cases hl
    obtain ⟨hi, c, hrun, hc⟩ := hs i p hold
    refine ⟨hi, ?_⟩
    by_cases hch : ch = c
    · subst hch; exact ⟨ch, hself, (hname p).trans hc⟩
    · exact ⟨c, by rwa [he.other c hch], by rwa [he.other c hch]⟩
  · rw [ht] at hl
    obtain rfl := Entry.lent.inj hl
    exact ⟨rfl, ch, hself, (hname q).trans hn⟩

theorem prepareIfReady (ch : Chan) (hs : s.LinesBorrowed) : (s.prepareIfReady ch).LinesBorrowed := by
  unfold State.prepareIfReady
  split
  · exact (prepare ch hs).choose
  · exact hs

end State.LinesBorrowed

/-! ### The placement of the channels -/

/-- PREPARING's steps of one channel leave another's life cycle and settings. -/
theorem State.prepareIfReady_other (s : State) {ch c : Chan} (h : ch ≠ c) (hc : s.chan[c.val].control.state.started = false) :
    (s.prepareIfReady ch).chan[c.val].control = s.chan[c.val].control := by
  unfold State.prepareIfReady
  split
  · obtain ⟨e, he, hp⟩ := s.prepare_eq ch
    rw [State.choose_control, hp]
    rcases (e.takeElementAt_frame ch s.chan[ch.val].programStart).control c with h' | ⟨h', -⟩
    · rw [h', he.other c h]
    · rw [he.other c h, hc] at h'; cases h'
  · rfl

theorem State.prepareIfReady_loader (s : State) (ch : Chan) : (s.prepareIfReady ch).loader = s.loader := by
  unfold State.prepareIfReady
  split
  · obtain ⟨e, he, hp⟩ := s.prepare_eq ch
    rw [State.choose_loader, hp, (e.takeElementAt_frame ch _).loader, he.rest.loader]
  · rfl

theorem State.place_loader (resumes : Chan → Bool) (s : State) (ch : Chan) : (State.place resumes s ch).loader = s.loader := by
  unfold State.place
  split
  · rfl
  · split
    · rfl
    · split
      · exact State.prepareIfReady_loader _ ch
      · rfl

/-- The placement of a channel leaves the life cycle of another that has not begun a run. -/
theorem State.place_other (resumes : Chan → Bool) (s : State) {ch c : Chan} (h : ch ≠ c)
    (hc : s.chan[c.val].control.state.started = false) :
    (State.place resumes s ch).chan[c.val].control = s.chan[c.val].control := by
  unfold State.place
  split
  · rw [State.onControl_other _ h, State.enterService_chan, if_neg h]
  · split
    · rw [State.enterService_chan, if_neg h]
    · split
      · rw [State.prepareIfReady_other _ h, State.onControl_other _ h]
        rw [State.onControl_other _ h]; exact hc
      · rw [State.onControl_other _ h]

theorem nodup_eraseDups {α : Type} [BEq α] [LawfulBEq α] (l : List α) : l.eraseDups.Nodup := by
  match l with
  | [] => simp
  | a :: l =>
    rw [List.eraseDups_cons, List.nodup_cons]
    exact ⟨by rw [List.mem_eraseDups]; simp, nodup_eraseDups _⟩
termination_by l.length
decreasing_by
  have := List.length_filter_le (fun b => !b == a) l
  simp only [List.length_cons]
  omega

theorem placementOrder_nodup (order : List Chan) : (placementOrder order).Nodup := by
  unfold placementOrder
  exact nodup_eraseDups _

theorem mem_placementOrder (order : List Chan) (c : Chan) : c ∈ placementOrder order := by
  unfold placementOrder
  rw [List.mem_eraseDups]
  exact List.mem_append_right _ (List.mem_finRange c)

/-- A predicate that the placement of each channel keeps, where the channels still to be placed have not begun a run. -/
theorem State.foldl_place_induction (resumes : Chan → Bool) {P : State → Prop}
    (h : ∀ (s : State) (ch : Chan), s.chan[ch.val].control.state.running = false → P s → P (State.place resumes s ch))
    (l : List Chan) (hl : l.Nodup) (s : State) (hc : ∀ c ∈ l, s.chan[c.val].control.state.running = false) (hs : P s) :
    P (l.foldl (State.place resumes) s) := by
  induction l generalizing s with
  | nil => exact hs
  | cons ch l ih =>
    obtain ⟨hch, hl⟩ := List.nodup_cons.1 hl
    refine ih hl _ (fun c hm => ?_) (h s ch (hc ch List.mem_cons_self) hs)
    have hcc := hc c (List.mem_cons_of_mem ch hm)
    have hne : ch ≠ c := by rintro rfl; exact hch hm
    rw [State.place_other resumes s hne ?_]
    · exact hcc
    · rw [Bool.eq_false_iff]
      intro hst
      rw [ChannelState.running_of_started hst] at hcc
      cases hcc

theorem State.LinesBorrowed.place {s : State} (resumes : Chan → Bool) (ch : Chan)
    (hc : s.chan[ch.val].control.state.running = false) (hs : s.LinesBorrowed) : (State.place resumes s ch).LinesBorrowed := by
  have serve (outcome : RunOutcome) : (s.enterService ch outcome).LinesBorrowed :=
    State.LinesBorrowed.onControl ch _ (by rw [State.onPath_same]; intro h; rw [hc] at h; cases h)
      (hs.of_control (t := s.onPath ch _) (fun c => by rw [State.onPath_chan]; split <;> simp_all)
        (fun c => by rw [State.onPath_chan]; split <;> simp_all) fun _ _ h => h)
  unfold State.place
  split
  · refine (serve _).onControl ch _ fun h => h
  · split
    · exact serve _
    · split
      · exact (hs.onControl ch _ fun _ => rfl).prepareIfReady ch
      · exact hs.onControl ch _ fun h => by rw [hc] at h; cases h

/-! ### The steps -/

/-- Once the loader is FINISHED it does not wait. -/
theorem State.WaitsForLoader.of_finished {s : State} (h : s.loader.phase = .finished) : s.WaitsForLoader :=
  fun hp => absurd h hp

/-- An engine that goes on leaves a channel that waits for the loader as it is. -/
theorem State.EngineFrame.waitsForLoader {s t : State} (h : s.EngineFrame t) (hs : s.WaitsForLoader) : t.WaitsForLoader := by
  intro hp c
  rw [h.loader] at hp
  rcases h.control c with e | ⟨e, -⟩
  · simp only [Fin.getElem_fin, e]; exact hs hp c
  · exact absurd (hs.finished (ChannelState.running_of_started e)) hp

/-- A law of waiting holds as long as the loader's phase and the channels' states do. -/
theorem State.WaitsForLoader.of_same {s t : State} (hl : t.loader.phase = s.loader.phase)
    (hc : ∀ c : Chan, t.chan[c.val].control.state = s.chan[c.val].control.state) (hs : s.WaitsForLoader) :
    t.WaitsForLoader := by
  intro hp c
  simp only [Fin.getElem_fin, hc]
  exact hs (hl ▸ hp) c

theorem State.WaitsForLoader.onChan {s : State} {ch : Chan} {f : Channel → Channel}
    (hf : (f s.chan[ch.val]).control = s.chan[ch.val].control) (hs : s.WaitsForLoader) : (s.onChan ch f).WaitsForLoader := by
  refine State.WaitsForLoader.of_same (s := s) rfl (fun c => ?_) hs
  rw [State.onChan_chan]
  split
  · rename_i e; subst e; rw [hf]
  · rfl

theorem State.WaitsForLoader.choose {s : State} (hs : s.WaitsForLoader) : s.choose.WaitsForLoader :=
  hs.of_same (by rw [s.choose_loader]) fun c => by rw [s.choose_control]

theorem State.WaitsForLoader.of_serviceFrame {s t : State} {ch : Chan} (h : s.ServiceFrame t ch) (hs : s.WaitsForLoader) :
    t.WaitsForLoader :=
  hs.of_same (by rw [h.rest.loader]) fun c => congrArg Control.state (h.control c)

theorem State.LinesBorrowed.onChan {s : State} {ch : Chan} {f : Channel → Channel}
    (hc : (f s.chan[ch.val]).control = s.chan[ch.val].control) (hn : (f s.chan[ch.val]).setup = s.chan[ch.val].setup)
    (hs : s.LinesBorrowed) : (s.onChan ch f).LinesBorrowed := by
  refine State.LinesBorrowed.of_control (s := s) hs (fun c => ?_) (fun c => ?_) (fun _ _ h => h) <;>
    rw [State.onChan_chan] <;> split <;> rename_i e
  · subst e; rw [hc]
  · rfl
  · subst e; rw [hn]
  · rfl

theorem State.LinesBorrowed.of_serviceFrame {s t : State} {ch : Chan} (h : s.ServiceFrame t ch) (he : s.ServedEntries t ch)
    (hs : s.LinesBorrowed) : t.LinesBorrowed :=
  hs.of_control (fun c => congrArg Control.state (h.control c)) h.setup fun i _ hl => (he i).lent hl

theorem State.LinesBorrowed.idleAllocator {s : State} (hs : s.LinesBorrowed) : s.idleAllocator.LinesBorrowed := hs

theorem State.WaitsForLoader.idleAllocator {s : State} (hs : s.WaitsForLoader) : s.idleAllocator.WaitsForLoader := hs

/-- With no channel running no line is lent. -/
theorem State.LinesBorrowed.not_lent {s : State} (hs : s.LinesBorrowed)
    (hr : ∀ c : Chan, s.chan[c.val].control.state.running = false) (i : Fin 64) (p : Fin 8) : s.table[i.val] ≠ .lent p := by
  intro h
  obtain ⟨-, c, hc, -⟩ := hs i p h
  rw [hr c] at hc
  cases hc

/-- A state that waits for the loader runs no channel. -/
theorem State.WaitsForLoader.not_running {s : State} (hs : s.WaitsForLoader) (hp : s.loader.phase = .reading) (c : Chan) :
    s.chan[c.val].control.state.running = false := by
  rw [Bool.eq_false_iff]
  intro h
  have := hs.finished h
  rw [hp] at this
  cases this

/-- Up to the placement a load has no channel running. -/
theorem State.Loads.not_running {s t : State} {image : List Byte} {resumes : Chan → Bool} (h : s.Loads image resumes t)
    (hs : ∀ c : Chan, s.chan[c.val].control.state.running = false) (c : Chan) :
    t.chan[c.val].control.state.running = false := by
  obtain ⟨_, _, e⟩ := h.chan c
  rw [e]
  cases resumes c
  · rfl
  · exact hs c

/-- A freed table lends nothing more. -/
theorem Entry.without_lent {p : Chan → Bool} {e : Entry} {q : Fin 8} (h : e.without p = .lent q) : e = .lent q := by
  rcases e.without_cases p with ⟨e', -⟩ | ⟨e', -⟩
  · rwa [e'] at h
  · rw [e'] at h; cases h

theorem State.foldl_place_loader (resumes : Chan → Bool) (l : List Chan) (s : State) :
    (l.foldl (State.place resumes) s).loader = s.loader := by
  induction l generalizing s with
  | nil => rfl
  | cons ch l ih => rw [List.foldl_cons, ih, State.place_loader]

theorem State.prepare_loader (s : State) (ch : Chan) : (s.prepare ch).loader = s.loader := by
  obtain ⟨e, he, h⟩ := s.prepare_eq ch
  rw [h, (e.takeElementAt_frame ch _).loader, he.rest.loader]

/-- Warm restart leaves every channel DISABLED or FAILED (R146). -/
theorem State.warm_state (s : State) (c : Chan) :
    s.warm.chan[c.val].control.state = .disabled ∨ s.warm.chan[c.val].control.state = .failed := by
  rw [State.warm_chan]
  unfold Channel.warm
  split
  · exact .inr rfl
  · exact .inl rfl

/-- Every way a step goes leaves the channels to the loader until it is FINISHED (R146, R157). -/
theorem State.Goes.waitsForLoader {c : Instr} {s t : State} (h : s.Goes c t) (hs : s.WaitsForLoader) : t.WaitsForLoader := by
  have finished {u : State} (hu : s.SameWork u) {ch : Chan} (hr : s.chan[ch.val].control.state.running = true) :
      u.loader.phase = .finished := hu.phase.trans (hs.finished hr)
  cases h with
  | same h => exact hs.congr h
  | powerOn => exact lawsHoldAtReset.2.2.2.1.1
  | warm => exact fun _ d => s.warm_state d
  | @loadFailed u status h => exact .of_finished (by rw [(u.loadFailed_failsLoad status).loader])
  | @loadGood u image order h =>
    exact .of_finished (by rw [State.loadGood_eq, State.foldl_place_loader, (u.loaded_loads image).loader])
  | retest ch _ h hf => exact .of_finished (by rw [State.prepareIfReady_loader]; exact h.phase.trans hf)
  | @abort u ch h hr =>
    obtain ⟨a, ha, e⟩ := u.takeAbort_eq ch
    exact .of_finished (by rw [e, State.choose_loader, ha.loader]; exact finished h hr)
  | prepare ch h hp =>
    exact .of_finished (by rw [State.choose_loader, State.prepare_loader]; exact finished h (by rw [hp]; rfl))
  | append ch item h => exact State.WaitsForLoader.onChan rfl (hs.congr h)
  | answer ch item rest h => exact State.WaitsForLoader.onChan rfl (hs.congr h)
  | stall ch h => exact State.WaitsForLoader.onChan rfl (hs.congr h)
  | issue ch o h => exact State.WaitsForLoader.onChan rfl (hs.congr h)
  | discard ch o h => exact (State.WaitsForLoader.onChan rfl (hs.congr h)).choose
  | @compare u ch o word h ho hu =>
    rw [u.engineReturn_eq ch o word hu]
    exact ((operationDone_frame _ ch).waitsForLoader (State.WaitsForLoader.onChan rfl (hs.congr h))).choose
  | write ch h => exact ((operationDone_frame _ ch).waitsForLoader (hs.congr h)).choose
  | holdEnds ch i h => exact ((takeElementAt_frame _ ch i).waitsForLoader (hs.congr h)).choose
  | @service u f kind h =>
    exact ((drainTest_frame _ f.channel).waitsForLoader ((hs.congr h).of_serviceFrame (u.serveRecord_frame f kind)).idleAllocator).choose
  | @analysis u ch flag h =>
    exact ((analysisReport_frame _ ch).waitsForLoader ((hs.congr h).of_serviceFrame (u.analyse_frame ch flag)).idleAllocator).choose

/-- An abort returns the lines that no other channel borrows, and lends none (R21). -/
theorem State.Aborts.linesBorrowed {s a : State} {ch : Chan} (h : s.Aborts a ch) (hs : s.LinesBorrowed) : a.LinesBorrowed := by
  intro i p hl
  have hentry := h.table i
  cases hx : s.table[i.val] with
  | free => simp only [hx] at hentry; rw [hentry] at hl; cases hl
  | tentative r => simp only [hx] at hentry; rw [hentry] at hl; split_ifs at hl
  | active r => simp only [hx] at hentry; rw [hentry] at hl; split_ifs at hl
  | lent q =>
    simp only [hx] at hentry
    rw [hentry] at hl
    split at hl
    · rename_i hb
      obtain rfl := Entry.lent.inj hl
      obtain ⟨d, hne, hrun, hname⟩ := (s.borrowed_iff ch q).1 hb
      obtain ⟨_, _, hd⟩ := h.other_eq (Ne.symm hne)
      exact ⟨(hs i q hx).1, d, by rw [hd]; exact hrun, by rw [hd]; exact hname⟩
    · cases hl

/-- Warm restart and a load lend no line. -/
theorem State.LinesBorrowed.of_not_lent {s : State} (h : ∀ (i : Fin 64) (p : Fin 8), s.table[i.val] ≠ .lent p) :
    s.LinesBorrowed := fun i p hl => absurd hl (h i p)

theorem State.warm_not_lent (s : State) (i : Fin 64) (p : Fin 8) : s.warm.table[i.val] ≠ .lent p := by
  have htable : s.warm.table[i.val] = s.warmEntry s.table[i.val] := by simp [State.warm]
  rw [htable, State.warmEntry]
  intro h
  cases hx : s.table[i.val] with
  | free => simp [hx, Entry.repair?] at h
  | lent q => simp [hx, Entry.repair?] at h
  | tentative r => simp only [hx, Entry.repair?] at h; split at h <;> cases h
  | active r => simp only [hx, Entry.repair?] at h; split at h <;> cases h

/-- Every way a step goes keeps the lines borrowed. -/
theorem State.Goes.linesBorrowed {c : Instr} {s t : State} (h : s.Goes c t) (hw : s.WaitsForLoader)
    (hs : s.LinesBorrowed) : t.LinesBorrowed := by
  have same {u : State} (h : s.SameWork u) : u.LinesBorrowed :=
    (State.PatternLineLaw.congr h ((State.patternLineLaw_iff s).2 ⟨hw, hs⟩)).2
  have notLent {u : State} (h : s.SameWork u) (hp : s.loader.phase = .reading) (i : Fin 64) (p : Fin 8) :
      u.table[i.val] ≠ .lent p :=
    (same h).not_lent ((hw.congr h).not_running (h.phase.trans hp)) i p
  cases h with
  | same h => exact same h
  | powerOn => exact lawsHoldAtReset.2.2.2.1.2
  | warm => exact .of_not_lent s.warm_not_lent
  | @loadFailed u status h hp =>
    exact .of_not_lent fun i p hl =>
      notLent h hp i p (Entry.without_lent (((u.loadFailed_failsLoad status).entry i).symm.trans hl))
  | @loadGood u image order h hp =>
    have hl := u.loaded_loads image
    rw [State.loadGood_eq]
    refine State.foldl_place_induction _ (fun x ch hc hx => hx.place _ ch hc) (placementOrder order)
      (placementOrder_nodup order) (u.loaded image)
      (fun d _ => hl.not_running ((hw.congr h).not_running (h.phase.trans hp)) d) (.of_not_lent fun i p he => ?_)
    rcases hl.entry i with ⟨e, -⟩ | ⟨-, r, e, -⟩
    · exact notLent h hp i p (Entry.without_lent (e.symm.trans he))
    · rw [e] at he; cases he
  | retest ch _ h => exact (State.LinesBorrowed.onControl ch _ (fun _ => rfl) (same h)).prepareIfReady ch
  | @abort u ch h =>
    obtain ⟨a, ha, e⟩ := u.takeAbort_eq ch
    rw [e]
    exact (ha.linesBorrowed (same h)).choose
  | prepare ch h => exact (State.LinesBorrowed.prepare ch (same h)).choose
  | append ch item h => exact State.LinesBorrowed.onChan rfl rfl (same h)
  | answer ch item rest h => exact State.LinesBorrowed.onChan rfl rfl (same h)
  | stall ch h => exact State.LinesBorrowed.onChan rfl rfl (same h)
  | issue ch o h => exact State.LinesBorrowed.onChan rfl rfl (same h)
  | discard ch o h => exact (State.LinesBorrowed.onChan rfl rfl (same h)).choose
  | @compare u ch o word h ho hu =>
    rw [u.engineReturn_eq ch o word hu]
    exact (State.LinesBorrowed.of_engineFrame (operationDone_frame _ ch) (State.LinesBorrowed.onChan rfl rfl (same h))).choose
  | write ch h => exact (State.LinesBorrowed.of_engineFrame (operationDone_frame _ ch) (same h)).choose
  | holdEnds ch i h => exact (State.LinesBorrowed.of_engineFrame (takeElementAt_frame _ ch i) (same h)).choose
  | @service u f kind h =>
    exact (State.LinesBorrowed.of_engineFrame (drainTest_frame _ f.channel) ((same h).of_serviceFrame
      (u.serveRecord_frame f kind) (u.serveRecord_servedEntries f kind)).idleAllocator).choose
  | @analysis u ch flag h =>
    exact (State.LinesBorrowed.of_engineFrame (analysisReport_frame _ ch) ((same h).of_serviceFrame
      (u.analyse_frame ch flag) (u.analyse_servedEntries ch flag)).idleAllocator).choose

/-- Settles O54. -/
theorem stepKeepsPatternLineLaw : Obligations.StepKeepsPatternLineLaw := by
  refine State.step_keeps State.PatternLineLaw.congr fun {_ s t} h hs => ?_
  obtain ⟨hw, hb⟩ := (State.patternLineLaw_iff s).1 hs
  exact (State.patternLineLaw_iff t).2 ⟨h.waitsForLoader hw, h.linesBorrowed hw hb⟩

end Sys2Proof.Machine

/-! PROOFS. The law of the reserve rows (R134): a reserve row is IN_USE exactly while one valid REMAP holds it (O55). -/

namespace Sys2Proof.Machine

/-! ## Entries and reserve rows that stand -/

/-- The channel's reserve row of a bank is IN_USE. -/
def State.InUse (s : State) (ch : Chan) (bank : Bank) (j : Nat) : Prop :=
  reserveAt s.chan[ch.val].allocation.reserve bank j = some .inUse

/-- The entry holds the channel's reserve row of a bank. -/
def State.Holds (s : State) (i : Fin 64) (ch : Chan) (bank : Bank) (j : Nat) : Prop :=
  s.table[i.val].holdsReserve ch bank j = true

theorem State.reserveRowLaw_iff (s : State) : s.ReserveRowLaw ↔ ∀ (ch : Chan) (bank : Bank) (j : Nat),
    (s.InUse ch bank j ↔ ∃ i : Fin 64, s.Holds i ch bank j)
      ∧ ∀ i i' : Fin 64, s.Holds i ch bank j → s.Holds i' ch bank j → i = i' := Iff.rfl

/-- An entry that holds a reserve row is a REMAP of its channel and bank. -/
theorem Entry.holdsReserve_iff (e : Entry) (ch : Chan) (bank : Bank) (j : Nat) : e.holdsReserve ch bank j = true ↔
    ∃ r : Repair, e.repair? = some r ∧ r.channel = ch ∧ r.bank = bank ∧ r.kind = .remap j := by
  unfold Entry.holdsReserve
  cases e.repair? with
  | none => simp
  | some r => simp [Repair.holdsReserve, and_assoc]

theorem Entry.holdsReserve_congr {e e' : Entry} (h : e'.repair? = e.repair?) (ch : Chan) (bank : Bank) (j : Nat) :
    e'.holdsReserve ch bank j = e.holdsReserve ch bank j := by
  unfold Entry.holdsReserve
  rw [h]

theorem Entry.reopen_holdsReserve (e : Entry) (ch c : Chan) (bank : Bank) (j : Nat) :
    (e.reopen ch).holdsReserve c bank j = e.holdsReserve c bank j := by
  cases e with
  | free => rfl
  | lent p => rfl
  | tentative r => by_cases h : r.channel = ch <;> simp [Entry.reopen, Entry.repair?, Entry.holdsReserve, h, Repair.holdsReserve]
  | active r => by_cases h : r.channel = ch <;> simp [Entry.reopen, Entry.repair?, Entry.holdsReserve, h, Repair.holdsReserve]

theorem Entry.not_holdsReserve {e : Entry} (h : e.repair? = none) (ch : Chan) (bank : Bank) (j : Nat) :
    e.holdsReserve ch bank j = false := by
  unfold Entry.holdsReserve
  rw [h]

namespace State.ReserveRowLaw

variable {s t : State}

/-- The law depends on the rows that are IN_USE and on the entries that hold rows. -/
theorem of_iff (hr : ∀ (ch : Chan) (bank : Bank) (j : Nat), t.InUse ch bank j ↔ s.InUse ch bank j)
    (he : ∀ (i : Fin 64) (ch : Chan) (bank : Bank) (j : Nat), t.Holds i ch bank j ↔ s.Holds i ch bank j)
    (hs : s.ReserveRowLaw) : t.ReserveRowLaw := by
  rw [State.reserveRowLaw_iff] at hs ⊢
  intro ch bank j
  simp only [hr, he]
  exact hs ch bank j

/-- The law stands while the reserve lists and the repairs do. -/
theorem of_same (hr : ∀ c : Chan, t.chan[c.val].allocation.reserve = s.chan[c.val].allocation.reserve)
    (he : ∀ i : Fin 64, t.table[i.val].repair? = s.table[i.val].repair?) (hs : s.ReserveRowLaw) : t.ReserveRowLaw :=
  hs.of_iff (fun ch bank j => by rw [State.InUse, hr]; rfl)
    fun i ch bank j => by rw [State.Holds, Entry.holdsReserve_congr (he i)]; rfl

theorem of_engineFrame (h : s.EngineFrame t) (hs : s.ReserveRowLaw) : t.ReserveRowLaw := hs.of_same h.reserve h.repair

theorem choose (hs : s.ReserveRowLaw) : s.choose.ReserveRowLaw :=
  hs.of_same s.choose_reserve fun i => by rw [s.choose_table]

theorem onChan {ch : Chan} {f : Channel → Channel}
    (hf : (f s.chan[ch.val]).allocation.reserve = s.chan[ch.val].allocation.reserve) (hs : s.ReserveRowLaw) :
    (s.onChan ch f).ReserveRowLaw := by
  refine of_same (s := s) (fun c => ?_) (fun _ => rfl) hs
  rw [State.onChan_chan]
  split
  · rename_i e; subst e; exact hf
  · rfl

/-- A map of a channel's reserve rows that moves none into IN_USE or out of it keeps the law. -/
theorem reserveAt_map (lists : List (List ReserveState)) (f : ReserveState → ReserveState) (bank : Bank) (j : Nat) :
    reserveAt (lists.map fun l => l.map f) bank j = (reserveAt lists bank j).map f := by
  simp only [reserveAt, List.getElem?_map]
  cases lists[bank.toNat]? with
  | none => rfl
  | some l => simp

theorem map_inUse {f : ReserveState → ReserveState} (hf : ∀ st, f st = .inUse ↔ st = .inUse)
    (lists : List (List ReserveState)) (bank : Bank) (j : Nat) :
    reserveAt (lists.map fun l => l.map f) bank j = some .inUse ↔ reserveAt lists bank j = some .inUse := by
  rw [reserveAt_map]
  cases reserveAt lists bank j with
  | none => simp
  | some st => simp [hf]

theorem prepare (ch : Chan) (hs : s.ReserveRowLaw) : (s.prepare ch).ReserveRowLaw := by
  obtain ⟨e, he, h⟩ := s.prepare_eq ch
  rw [h]
  refine of_engineFrame (e.takeElementAt_frame ch _) (hs.of_iff (fun c bank j => ?_) fun i c bank j => ?_)
  · have hsame := he.same
    by_cases hc : ch = c
    · subst hc
      have hres : e.chan[ch.val].allocation.reserve
          = s.chan[ch.val].allocation.reserve.map fun l => l.map ReserveState.restart := by rw [hsame]; rfl
      rw [State.InUse, hres, map_inUse fun st => by cases st <;> simp [ReserveState.restart]]
      rfl
    · rw [State.InUse, he.other c hc]; rfl
  · rcases he.entry i with ⟨ht, -⟩ | ⟨p, -, rfl, hf, ht⟩
    · rw [State.Holds, ht, Entry.reopen_holdsReserve]; rfl
    · rw [State.Holds, ht, State.Holds, hf]; rfl

theorem prepareIfReady (ch : Chan) (hs : s.ReserveRowLaw) : (s.prepareIfReady ch).ReserveRowLaw := by
  unfold State.prepareIfReady
  split
  · exact (hs.prepare ch).choose
  · exact hs

theorem place (resumes : Chan → Bool) (ch : Chan) (hs : s.ReserveRowLaw) : (State.place resumes s ch).ReserveRowLaw := by
  have serve (outcome : RunOutcome) : (s.enterService ch outcome).ReserveRowLaw := onChan rfl (onChan rfl hs)
  unfold State.place
  split
  · exact onChan rfl (serve _)
  · split
    · exact serve _
    · split
      · exact prepareIfReady ch (onChan rfl hs)
      · exact onChan rfl hs

theorem foldl_place (resumes : Chan → Bool) (l : List Chan) (hs : s.ReserveRowLaw) :
    (l.foldl (State.place resumes) s).ReserveRowLaw := by
  induction l generalizing s with
  | nil => exact hs
  | cons ch l ih => exact ih (hs.place resumes ch)

/-! ## Reserve rows set, entries released and created -/

/-- Setting a reserve row that the lists hold. -/
theorem setReserveRow_inUse (s : State) {ch : Chan} {bank : Bank} {n : Nat} (st : ReserveState)
    (h : (reserveAt s.chan[ch.val].allocation.reserve bank n).isSome = true) (c : Chan) (bank' : Bank) (j : Nat) :
    (s.setReserveRow ch bank n st).InUse c bank' j ↔
      if c = ch ∧ bank' = bank ∧ j = n then st = .inUse else s.InUse c bank' j := by
  unfold State.InUse State.setReserveRow
  rw [State.onAllocation_chan]
  by_cases e : ch = c
  · subst e
    simp only [if_true, true_and]
    rw [reserveAt_setReserve _ _ _ _ _ _ h]
    split <;> simp
  · simp [e, Ne.symm e]

/-- A row that no entry holds takes another state than IN_USE. -/
theorem setReserveRow {ch : Chan} {bank : Bank} {n : Nat} {st : ReserveState} (hst : st ≠ .inUse)
    (h : (reserveAt s.chan[ch.val].allocation.reserve bank n).isSome = true) (hn : ¬ s.InUse ch bank n)
    (hs : s.ReserveRowLaw) : (s.setReserveRow ch bank n st).ReserveRowLaw := by
  refine of_iff (s := s) (fun c bank' j => ?_) (fun _ _ _ _ => Iff.rfl) hs
  rw [setReserveRow_inUse s st h]
  split
  · rename_i e
    obtain ⟨rfl, rfl, rfl⟩ := e
    exact ⟨fun h => absurd h hst, fun h => absurd h hn⟩
  · rfl

theorem releaseWhere_holds (s : State) (p : Repair → Bool) (i : Fin 64) (ch : Chan) (bank : Bank) (j : Nat) :
    (s.releaseWhere p).Holds i ch bank j ↔ s.Holds i ch bank j ∧ ∀ r, s.table[i.val].repair? = some r → p r = false := by
  unfold State.Holds
  rw [State.releaseWhere_entry]
  cases hr : s.table[i.val].repair? with
  | none => simp [Entry.not_holdsReserve hr]
  | some r =>
    cases hp : p r
    · simp [hp]
    · simp [hp, Entry.holdsReserve, Entry.repair?]

/-- The holder of a row is released and the row is spoilt. -/
theorem releaseHolder {ch : Chan} {bank : Bank} {n : Nat} {st : ReserveState} (hst : st ≠ .inUse) (hn : s.InUse ch bank n)
    (hs : s.ReserveRowLaw) :
    ((s.releaseWhere fun r => r.holdsReserve ch bank n).setReserveRow ch bank n st).ReserveRowLaw := by
  have hsome : (reserveAt (s.releaseWhere fun r => r.holdsReserve ch bank n).chan[ch.val].allocation.reserve bank n).isSome
      = true := by
    rw [State.releaseWhere_chan, show reserveAt s.chan[ch.val].allocation.reserve bank n = some .inUse from hn]; rfl
  have hholds (i : Fin 64) (c : Chan) (bank' : Bank) (j : Nat) :
      (s.releaseWhere fun r => r.holdsReserve ch bank n).Holds i c bank' j ↔
        s.Holds i c bank' j ∧ ¬ (c = ch ∧ bank' = bank ∧ j = n) := by
    rw [releaseWhere_holds]
    refine and_congr_right fun h => ?_
    obtain ⟨r, hr, rfl, rfl, hk⟩ := (Entry.holdsReserve_iff _ _ _ _).1 h
    have : (∀ q, s.table[i.val].repair? = some q → q.holdsReserve ch bank n = false) ↔ r.holdsReserve ch bank n = false :=
      ⟨fun h => h r hr, fun h q hq => by rw [hr] at hq; exact Option.some.inj hq ▸ h⟩
    rw [this]
    simp only [Repair.holdsReserve, hk, Bool.and_eq_false_iff, beq_eq_false_iff_ne, ne_eq, RepairKind.remap.injEq]
    tauto
  rw [State.reserveRowLaw_iff] at hs ⊢
  intro c bank' j
  rw [setReserveRow_inUse _ st hsome]
  have hset (i : Fin 64) : ((s.releaseWhere fun r => r.holdsReserve ch bank n).setReserveRow ch bank n st).Holds i c bank' j ↔
      s.Holds i c bank' j ∧ ¬ (c = ch ∧ bank' = bank ∧ j = n) := hholds i c bank' j
  simp only [hset]
  have huse : (s.releaseWhere fun r => r.holdsReserve ch bank n).InUse c bank' j ↔ s.InUse c bank' j := by
    rw [State.InUse, State.releaseWhere_chan]; rfl
  obtain ⟨h1, h2⟩ := hs c bank' j
  by_cases e : c = ch ∧ bank' = bank ∧ j = n
  · simp [e, hst]
  · simp only [e, if_false, not_false_eq_true, and_true, huse]
    exact ⟨h1, h2⟩

/-- The holders after a creation: one entry more, if the repair is a REMAP. -/
theorem create_holds {s t : State} {r : Repair} (h : s.create r = some t) : ∃ i : Fin 64, s.table[i.val] = .free
    ∧ (∀ (c : Chan) (bank : Bank) (j : Nat), t.Holds i c bank j ↔ r.holdsReserve c bank j = true)
    ∧ ∀ i' : Fin 64, i' ≠ i → ∀ (c : Chan) (bank : Bank) (j : Nat), t.Holds i' c bank j ↔ s.Holds i' c bank j := by
  obtain ⟨i, q, hfree, hq, hi, hothers⟩ := State.create_entry h
  refine ⟨i, hfree, fun c bank j => ?_, fun i' hne c bank j => ?_⟩
  · rw [State.Holds, hi]
    show q.holdsReserve c bank j = true ↔ _
    rw [hq, Repair.normalised_holdsReserve]
  · rw [State.Holds, (hothers i' hne).1]; rfl

/-- The creation of a repair that holds no row keeps the law. -/
theorem create {r : Repair} (h : s.create r = some t) (hk : ∀ j, r.kind ≠ .remap j) (hs : s.ReserveRowLaw) :
    t.ReserveRowLaw := by
  obtain ⟨i, hfree, hi, hothers⟩ := create_holds h
  refine hs.of_iff (fun c bank j => ?_) fun i' c bank j => ?_
  · rw [State.InUse, (State.create_frame h).1]; rfl
  · by_cases e : i' = i
    · subst e
      rw [hi, State.Holds, hfree]
      have hne (j : Nat) : (r.kind == .remap j) = false := by simpa using hk j
      simp [Repair.holdsReserve, hne, Entry.holdsReserve, Entry.repair?]
    · exact hothers i' e c bank j

/-- The creation of a REMAP to a row that no entry holds, which becomes IN_USE. -/
theorem createRemap {r : Repair} {n : Nat} (h : s.create r = some t) (hk : r.kind = .remap n)
    (hsome : (reserveAt s.chan[r.channel.val].allocation.reserve r.bank n).isSome = true)
    (hn : ¬ s.InUse r.channel r.bank n) (hs : s.ReserveRowLaw) :
    (t.setReserveRow r.channel r.bank n .inUse).ReserveRowLaw := by
  obtain ⟨i, hfree, hi, hothers⟩ := create_holds h
  have hchan := (State.create_frame h).1
  rw [State.reserveRowLaw_iff] at hs ⊢
  intro c bank j
  rw [setReserveRow_inUse t _ (by rw [hchan]; exact hsome)]
  have hset (i' : Fin 64) : (t.setReserveRow r.channel r.bank n .inUse).Holds i' c bank j ↔ t.Holds i' c bank j := Iff.rfl
  have huse : t.InUse c bank j ↔ s.InUse c bank j := by rw [State.InUse, hchan]; rfl
  have hnew : t.Holds i c bank j ↔ c = r.channel ∧ bank = r.bank ∧ j = n := by
    rw [hi]
    simp only [Repair.holdsReserve, hk, Bool.and_eq_true, beq_iff_eq, RepairKind.remap.injEq]
    tauto
  have hold : ¬ s.Holds i c bank j := by
    rw [State.Holds, hfree]
    exact Bool.false_ne_true
  obtain ⟨h1, h2⟩ := hs c bank j
  have hothers' (i' : Fin 64) (hne : i' ≠ i) := hothers i' hne c bank j
  simp only [hset, huse]
  by_cases e : c = r.channel ∧ bank = r.bank ∧ j = n
  · obtain ⟨rfl, rfl, rfl⟩ := e
    have none (i' : Fin 64) (hne : i' ≠ i) : ¬ t.Holds i' r.channel r.bank j :=
      fun hh => hn (h1.2 ⟨i', (hothers' i' hne).1 hh⟩)
    have only (i' : Fin 64) (hh : t.Holds i' r.channel r.bank j) : i' = i := by
      by_contra hne
      exact none i' hne hh
    simp only [and_self, if_true, true_iff]
    exact ⟨⟨i, hnew.2 ⟨rfl, rfl, rfl⟩⟩, fun a b ha hb => (only a ha).trans (only b hb).symm⟩
  · simp only [e, if_false]
    have hi' : ¬ t.Holds i c bank j := fun hh => e (hnew.1 hh)
    have same (i' : Fin 64) : t.Holds i' c bank j ↔ s.Holds i' c bank j := by
      by_cases hne : i' = i
      · subst hne; exact ⟨fun h => absurd h hi', fun h => absurd h hold⟩
      · exact hothers' i' hne
    simp only [same]
    exact ⟨h1, h2⟩

end State.ReserveRowLaw

end Sys2Proof.Machine

namespace Sys2Proof.Machine

namespace State.ReserveRowLaw

variable {s t : State}

/-! ## The services of the allocator (R129 to R138) -/

theorem onAllocation {ch : Chan} {f : ChannelAllocation → ChannelAllocation}
    (hf : (f s.chan[ch.val].allocation).reserve = s.chan[ch.val].allocation.reserve) (hs : s.ReserveRowLaw) :
    (s.onAllocation ch f).ReserveRowLaw := onChan hf hs

theorem onAllocCounters {ch : Chan} (f : AllocationCounters → AllocationCounters) (hs : s.ReserveRowLaw) :
    (s.onAllocCounters ch f).ReserveRowLaw := onAllocation rfl hs

theorem countRaw (f : FailRecord) (n : Nat) (hs : s.ReserveRowLaw) : (s.countRaw f n).ReserveRowLaw := onAllocCounters _ hs

theorem reserveRecord (f : FailRecord) (hs : s.ReserveRowLaw) : (s.reserveRecord f).ReserveRowLaw := by
  have hc := hs.countRaw f 0
  unfold State.reserveRecord
  dsimp only
  have spoil {st : ReserveState} (hst : st ≠ .inUse)
      (h : reserveAt (s.countRaw f 0).chan[f.channel].allocation.reserve f.bank
        (reserveIndex s.chan[f.channel].geometry f.row) = some st) :
      ((s.countRaw f 0).spoilReserve f (reserveIndex s.chan[f.channel].geometry f.row)).ReserveRowLaw :=
    onAllocCounters _ (hc.setReserveRow (by decide) (by simp only [Fin.getElem_fin] at h ⊢; rw [h]; rfl)
      fun hu => hst (Option.some.inj (h.symm.trans hu)))
  split
  · rename_i h; exact spoil (by decide) h
  · rename_i h; exact spoil (by decide) h
  · exact hc
  · rename_i h; exact onAllocCounters _ (onAllocCounters _ (hc.releaseHolder (by decide) h))
  · exact hc

theorem newFailRecord (f : FailRecord) (hs : s.ReserveRowLaw) : (s.newFailRecord f).ReserveRowLaw := by
  have ht : (s.tallyFail f).ReserveRowLaw := by
    refine onAllocation ?_ hs
    split <;> rfl
  unfold State.newFailRecord
  dsimp only
  refine countRaw f _ ?_
  split
  · rename_i h
    refine onAllocation rfl (ht.create h fun j => ?_)
    simp [State.substituteFor]
  · exact onAllocation rfl ht

theorem serveRecord (f : FailRecord) (kind : RecordClass) (hs : s.ReserveRowLaw) : (s.serveRecord f kind).ReserveRowLaw := by
  cases kind with
  | verify => exact onAllocCounters _ hs
  | reserveRow => exact hs.reserveRecord f
  | covered => exact hs.countRaw f _
  | newFail => exact hs.newFailRecord f

/-- The release of SUBSTITUTEs keeps the law. -/
theorem releaseSubstitutes (p : Repair → Bool) (hs : s.ReserveRowLaw) :
    (s.releaseWhere fun r => p r && r.isSubstitute).ReserveRowLaw := by
  refine hs.of_iff (fun ch bank j => by rw [State.InUse, State.releaseWhere_chan]; rfl) fun i ch bank j => ?_
  rw [releaseWhere_holds, and_iff_left_iff_imp]
  intro h r hr
  obtain ⟨q, hq, -, -, hk⟩ := (Entry.holdsReserve_iff _ _ _ _).1 h
  rw [hq] at hr
  obtain rfl := Option.some.inj hr
  simp [Repair.isSubstitute, hk]

theorem remapMarked (ch : Chan) (row : TallyEntry) (hs : s.ReserveRowLaw) : (State.remapMarked ch s row).ReserveRowLaw := by
  unfold State.remapMarked
  split
  · exact onAllocCounters _ hs
  · rename_i n hgood
    have hg := lowestGood_good hgood
    have hr := hs.releaseSubstitutes fun r => r.ofRow ch row.bank row.row
    dsimp only
    split
    · rename_i h
      refine createRemap h rfl ?_ ?_ hr
      · rw [State.releaseWhere_chan]
        simp only [Fin.getElem_fin] at hg
        rw [hg]; rfl
      · rw [State.InUse, State.releaseWhere_chan]
        simp only [Fin.getElem_fin] at hg
        rw [hg]; simp
    · exact hr

theorem analyse (ch : Chan) (flag : Bool) (hs : s.ReserveRowLaw) : (s.analyse ch flag).ReserveRowLaw := by
  have hp : (s.promote ch flag).ReserveRowLaw := by
    unfold State.promote State.mapReserve
    split
    · refine State.ReserveRowLaw.of_iff (s := s) (fun c bank j => ?_) (fun _ _ _ _ => Iff.rfl) hs
      rw [State.InUse, State.onAllocation_chan]
      split
      · rename_i e
        subst e
        exact map_inUse (fun st => by cases st <;> simp [ReserveState.promote]) _ _ _
      · rfl
    · exact hs
  have hf (l : List TallyEntry) (x : State) (hx : x.ReserveRowLaw) : (l.foldl (State.remapMarked ch) x).ReserveRowLaw := by
    induction l generalizing x with
    | nil => exact hx
    | cons t l ih => exact ih _ (hx.remapMarked ch t)
  exact hf _ _ hp

/-! ## An abort (R16) -/

/-- What gives up a row holds it. -/
theorem holds_of_givesUp {e : Entry} {ch : Chan} {bank : Bank} {j : Nat} (h : e.givesUp ch bank j = true) :
    e.holdsReserve ch bank j = true := by
  unfold Entry.givesUp at h
  unfold Entry.holdsReserve
  cases hr : e.repair? with
  | none => simp [hr] at h
  | some r =>
    simp only [hr, Repair.foundBy, Bool.and_eq_true, beq_iff_eq] at h
    obtain ⟨⟨⟨hc, -⟩, hb⟩, hk⟩ := h
    simp [Repair.holdsReserve, hc, hb, hk]

theorem abortEntry_holds (s : State) (ch : Chan) (i : Fin 64) (c : Chan) (bank : Bank) (j : Nat) :
    (s.abortEntry ch i).holdsReserve c bank j = s.table[i.val].holdsReserve c bank j := by
  unfold State.abortEntry
  split
  · exact Entry.reopen_holdsReserve _ _ _ _ _
  · rfl

theorem abortEntry_repair_eq_none (s : State) (ch : Chan) (i : Fin 64) :
    (s.abortEntry ch i).repair? = none ↔ s.table[i.val].repair? = none := by
  unfold State.abortEntry
  split
  · cases s.table[i.val] with
    | free => rfl
    | lent p => rfl
    | tentative r => by_cases h : r.channel = ch <;> simp [Entry.reopen, Entry.repair?, h]
    | active r => by_cases h : r.channel = ch <;> simp [Entry.reopen, Entry.repair?, h]
  · rfl

/-- The holders that an abort leaves: those that do not give up their row. -/
theorem aborts_holds {a : State} {ch : Chan} (ha : s.Aborts a ch) (i : Fin 64) (c : Chan) (bank : Bank) (j : Nat) :
    a.Holds i c bank j ↔ s.Holds i c bank j ∧ ¬ (c = ch ∧ (s.abortEntry ch i).givesUp ch bank j = true) := by
  have he := ha.entry i
  rw [State.Holds, State.Holds, ← abortEntry_holds s ch i]
  cases hr : (s.abortEntry ch i).repair? with
  | none =>
    rw [hr] at he
    have hold := (abortEntry_repair_eq_none s ch i).1 hr
    have hnone : a.table[i.val].repair? = none := by
      rw [he]
      cases hx : s.table[i.val] with
      | free => rfl
      | lent p => cases hb : s.borrowed ch p <;> simp [hb, Entry.repair?]
      | tentative r => rw [hx] at hold; cases hold
      | active r => rw [hx] at hold; cases hold
    simp [Entry.not_holdsReserve hnone, Entry.not_holdsReserve hr]
  | some r =>
    simp only [hr] at he
    rw [he]
    cases hf : r.foundBy ch
    · simp [Entry.givesUp, hr, hf]
    · refine ⟨fun h => absurd h Bool.false_ne_true, fun ⟨hh, hn⟩ => absurd ?_ hn⟩
      obtain ⟨q, hq, hc, hb, hk⟩ := (Entry.holdsReserve_iff _ _ _ _).1 hh
      rw [hr] at hq
      obtain rfl := Option.some.inj hq
      have hch : r.channel = ch := by
        simp only [Repair.foundBy, Bool.and_eq_true, beq_iff_eq] at hf
        exact hf.1
      exact ⟨hc.symm.trans hch, by simp [Entry.givesUp, hr, hf, hb, hk]⟩

theorem aborts {a : State} {ch : Chan} (ha : s.Aborts a ch) (hs : s.ReserveRowLaw) : a.ReserveRowLaw := by
  rw [State.reserveRowLaw_iff] at hs ⊢
  intro c bank j
  obtain ⟨h1, h2⟩ := hs c bank j
  refine ⟨?_, fun i i' hi hi' => h2 i i' ((aborts_holds ha i c bank j).1 hi).1 ((aborts_holds ha i' c bank j).1 hi').1⟩
  simp only [aborts_holds ha]
  by_cases hc : ch = c
  · subst hc
    rw [State.InUse, ha.reserve]
    by_cases hg : ∃ i : Fin 64, (s.abortEntry ch i).givesUp ch bank j = true
    · obtain ⟨i, hi⟩ := hg
      have hold : s.Holds i ch bank j := by
        rw [State.Holds, ← abortEntry_holds s ch i]; exact holds_of_givesUp hi
      have huse : reserveAt s.chan[ch.val].allocation.reserve bank j = some .inUse := h1.2 ⟨i, hold⟩
      rw [if_pos ⟨⟨i, hi⟩, huse⟩]
      simp only [Option.some.injEq, reduceCtorEq, true_and, false_iff, not_exists, not_and, not_not]
      intro i' hi'
      rw [h2 i' i hi' hold]
      exact hi
    · rw [if_neg fun h => hg h.1]
      refine h1.trans (exists_congr fun i => ?_)
      simp only [true_and, iff_self_and]
      exact fun _ hi => hg ⟨i, hi⟩
  · obtain ⟨_, _, e⟩ := ha.other_eq hc
    rw [State.InUse, e]
    refine h1.trans (exists_congr fun i => ?_)
    simp [Ne.symm hc]

/-! ## Loads and resets (R22, R23, R134, R148, R166) -/

/-- With no row IN_USE and none held, of every channel. -/
theorem of_none (hr : ∀ (ch : Chan) (bank : Bank) (j : Nat), ¬ s.InUse ch bank j)
    (he : ∀ (i : Fin 64) (ch : Chan) (bank : Bank) (j : Nat), ¬ s.Holds i ch bank j) : s.ReserveRowLaw := by
  rw [State.reserveRowLaw_iff]
  intro ch bank j
  exact ⟨⟨fun h => absurd h (hr ch bank j), fun ⟨i, h⟩ => absurd h (he i ch bank j)⟩,
    fun i _ h => absurd h (he i ch bank j)⟩

/-- Some channels keep their rows and entries; the others have no row IN_USE and no valid entry. -/
theorem of_kept {p : Chan → Bool}
    (hk : ∀ c : Chan, p c = true → t.chan[c.val].allocation.reserve = s.chan[c.val].allocation.reserve)
    (hn : ∀ c : Chan, p c = false → ∀ (bank : Bank) (j : Nat), ¬ t.InUse c bank j)
    (he : ∀ i : Fin 64, t.table[i.val].repair? = (s.table[i.val].without fun c => !p c).repair?) (hs : s.ReserveRowLaw) :
    t.ReserveRowLaw := by
  rw [State.reserveRowLaw_iff] at hs ⊢
  intro c bank j
  have hholds (i : Fin 64) : t.Holds i c bank j ↔ s.Holds i c bank j ∧ p c = true := by
    rw [State.Holds, Entry.holdsReserve_congr (he i)]
    rcases Entry.without_cases (fun c => !p c) s.table[i.val] with ⟨e, hp⟩ | ⟨e, r, hr, hp⟩
    · rw [e]
      refine ⟨fun h => ⟨h, ?_⟩, fun h => h.1⟩
      obtain ⟨r, hr, rfl, -⟩ := (Entry.holdsReserve_iff _ _ _ _).1 h
      simpa using hp r hr
    · rw [e]
      refine ⟨fun h => absurd h Bool.false_ne_true, fun ⟨h, hc⟩ => ?_⟩
      obtain ⟨q, hq, rfl, -⟩ := (Entry.holdsReserve_iff _ _ _ _).1 h
      rw [hr] at hq
      obtain rfl := Option.some.inj hq
      simp [hc] at hp
  obtain ⟨h1, h2⟩ := hs c bank j
  simp only [hholds]
  cases hp : p c
  · simp [hn c hp]
  · have huse : t.InUse c bank j ↔ s.InUse c bank j := by rw [State.InUse, hk c hp]; rfl
    exact ⟨by simpa [huse] using h1, fun i i' hi hi' => h2 i i' hi.1 hi'.1⟩

end State.ReserveRowLaw

end Sys2Proof.Machine

namespace Sys2Proof.Machine

/-! ## The carried records (R166) -/

/-- The lists of a channel that takes carried records have a place for each reserve row of its geometry. -/
def State.ReserveShape (resumes : Chan → Bool) (s : State) : Prop :=
  ∀ c : Chan, resumes c = false → s.chan[c.val].toBeTested = true →
    s.chan[c.val].geometry.b ≤ 3 ∧ ∀ (bank : Bank) (j : Nat), bank.toNat < s.chan[c.val].geometry.banks →
      j < s.chan[c.val].geometry.q → (reserveAt s.chan[c.val].allocation.reserve bank j).isSome = true

/-- A record that is not barred asks for a repair in range, and for a reserve row that is not IN_USE (R166). -/
theorem State.barsCarried_eq_false {s : State} {k : CarriedRecord} (h : s.barsCarried k = false) :
    s.chan[k.channel.val].toBeTested = true ∧ k.inRange s.chan[k.channel.val].geometry = true
      ∧ ∀ j : Nat, k.repair.kind = .remap j → ¬ s.InUse k.channel k.repair.bank j := by
  unfold State.barsCarried at h
  simp only [Bool.or_eq_false_iff, Bool.not_eq_false'] at h
  obtain ⟨⟨⟨⟨ht, hr⟩, -⟩, -⟩, hu⟩ := h
  refine ⟨ht, hr, fun j hk hi => ?_⟩
  simp only [hk] at hu
  rw [beq_eq_false_iff_ne] at hu
  exact hu hi

theorem CarriedRecord.repair_kind_remap {k : CarriedRecord} {j : Nat} (h : k.repair.kind = .remap j) :
    k.kind = 1 ∧ j = k.last := by
  unfold CarriedRecord.repair at h
  simp only at h
  split at h
  · rename_i h1
    exact ⟨h1, (RepairKind.remap.inj h).symm⟩
  · cases h

/-- What a carried record's range checks say of a REMAP. -/
theorem CarriedRecord.inRange_remap {k : CarriedRecord} {g : Geometry} (h : k.inRange g = true) (hk : k.kind = 1) :
    k.bank < g.banks ∧ k.last < g.q := by
  simp only [CarriedRecord.inRange, hk, Bool.and_eq_true, decide_eq_true_eq, Bool.or_eq_true, beq_iff_eq] at h
  obtain ⟨⟨hb, -⟩, h | h⟩ := h
  · exact absurd h.1.1 (by decide)
  · exact ⟨hb, h.2⟩

theorem reserveAt_setReserve_isSome {lists : List (List ReserveState)} {bank bank' : Bank} {n j : Nat} {st : ReserveState}
    (h : (reserveAt lists bank n).isSome = true) (h' : (reserveAt lists bank' j).isSome = true) :
    (reserveAt (setReserve lists bank n st) bank' j).isSome = true := by
  rw [reserveAt_setReserve _ _ _ _ _ _ h]
  split
  · rfl
  · exact h'

theorem State.ReserveShape.of_same {resumes : Chan → Bool} {s t : State} (hs : s.ReserveShape resumes)
    (h : ∀ c : Chan, t.chan[c.val].toBeTested = s.chan[c.val].toBeTested ∧ t.chan[c.val].geometry = s.chan[c.val].geometry
      ∧ ∀ (bank : Bank) (j : Nat), (reserveAt s.chan[c.val].allocation.reserve bank j).isSome = true →
          (reserveAt t.chan[c.val].allocation.reserve bank j).isSome = true) : t.ReserveShape resumes := by
  intro c hr ht
  obtain ⟨h1, h2, h3⟩ := h c
  rw [h2]
  obtain ⟨hb, hl⟩ := hs c hr (h1 ▸ ht)
  exact ⟨hb, fun bank j hbank hj => h3 bank j (hl bank j hbank hj)⟩

theorem State.dropCarried_reserve {resumes : Chan → Bool} {s : State} (ch : Chan) (hs : s.ReserveRowLaw)
    (hshape : s.ReserveShape resumes) : (s.dropCarried ch).ReserveRowLaw ∧ (s.dropCarried ch).ReserveShape resumes := by
  refine ⟨State.ReserveRowLaw.onChan rfl hs, hshape.of_same fun c => ?_⟩
  rw [State.dropCarried, State.onSetup_chan]
  split
  · rename_i e; subst e; exact ⟨rfl, rfl, fun _ _ h => h⟩
  · exact ⟨rfl, rfl, fun _ _ h => h⟩

/-- The taking of a carried record keeps the law and the lists' shape. -/
theorem State.loadCarried_reserve (resumes : Chan → Bool) {s : State} (k : CarriedRecord) (hs : s.ReserveRowLaw)
    (hshape : s.ReserveShape resumes) :
    (State.loadCarried resumes s k).ReserveRowLaw ∧ (State.loadCarried resumes s k).ReserveShape resumes := by
  unfold State.loadCarried
  split
  · exact ⟨hs, hshape⟩
  · rename_i hr
    rw [Bool.not_eq_true] at hr
    split
    · exact State.dropCarried_reserve _ hs hshape
    · rename_i hb
      obtain ⟨htest, hrange, hfree⟩ := State.barsCarried_eq_false (Bool.eq_false_iff.2 hb)
      split
      · rename_i t ht
        have hchan := (State.create_frame ht).1
        unfold State.holdReserve
        split
        · rename_i n hk
          obtain ⟨hkind, rfl⟩ := CarriedRecord.repair_kind_remap hk
          obtain ⟨hbank, hlast⟩ := CarriedRecord.inRange_remap hrange hkind
          obtain ⟨hb3, hl⟩ := hshape k.channel hr htest
          have hsome : (reserveAt s.chan[k.channel.val].allocation.reserve k.repair.bank k.last).isSome = true := by
            refine hl _ _ ?_ hlast
            have h8 : s.chan[k.channel.val].geometry.banks ≤ 2 ^ 3 := Nat.pow_le_pow_right (by decide) hb3
            rw [show k.repair.bank = BitVec.ofNat 3 k.bank from rfl, BitVec.toNat_ofNat, Nat.mod_eq_of_lt (by omega)]
            exact hbank
          refine ⟨State.ReserveRowLaw.createRemap ht hk hsome (hfree _ hk) hs, hshape.of_same fun c => ?_⟩
          rw [State.setReserveRow, State.onAllocation_chan, hchan]
          split
          · rename_i e
            subst e
            exact ⟨rfl, rfl, fun bank j h => reserveAt_setReserve_isSome hsome h⟩
          · exact ⟨rfl, rfl, fun _ _ h => h⟩
        · rename_i column scope hk
          refine ⟨hs.create ht fun j h => ?_, hshape.of_same fun c => by rw [hchan]; exact ⟨rfl, rfl, fun _ _ h => h⟩⟩
          rw [hk] at h; cases h
      · exact State.dropCarried_reserve _ hs hshape

theorem State.foldl_loadCarried_reserve (resumes : Chan → Bool) (l : List CarriedRecord) {s : State} (hs : s.ReserveRowLaw)
    (hshape : s.ReserveShape resumes) : (l.foldl (State.loadCarried resumes) s).ReserveRowLaw := by
  induction l generalizing s with
  | nil => exact hs
  | cons k l ih =>
    obtain ⟨h1, h2⟩ := State.loadCarried_reserve resumes k hs hshape
    exact ih h1 h2

/-! ## Fresh lists (R125, R134) -/

theorem reserveAt_replicate (banks q : Nat) (st : ReserveState) (bank : Bank) (j : Nat) :
    reserveAt (List.replicate banks (List.replicate q st)) bank j
      = if bank.toNat < banks ∧ j < q then some st else none := by
  simp only [reserveAt, List.getElem?_replicate]
  by_cases h : bank.toNat < banks <;> simp [h, List.getElem?_replicate]

theorem Channel.freshReserve_not_inUse (c : Channel) (bank : Bank) (j : Nat) :
    reserveAt c.freshReserve bank j ≠ some .inUse := by
  rw [Channel.freshReserve, reserveAt_replicate]
  split <;> simp

/-- A channel that a GOOD image sets to be tested has a geometry in range (R163). -/
theorem setupOf_toBeTested {image : List Byte} {store : Vector Element 64} {ch : Chan}
    (h : ((setupOf image store ch).enabled && (setupOf image store ch).code == .none) = true) :
    (recordedGeometry image ch).inRange = true := by
  simp only [setupOf, Bool.and_eq_true, beq_iff_eq] at h
  obtain ⟨he, hc⟩ := h
  rw [if_pos he, enabledCode] at hc
  by_contra hg
  rw [Bool.not_eq_true] at hg
  simp [hg] at hc

theorem State.decided_reserve {s : State} (image : List Byte) (hs : s.ReserveRowLaw) :
    (s.decided image).ReserveRowLaw ∧ (s.decided image).ReserveShape ((s.applyImage image).resumes image) := by
  have hdec := s.decided_chan image
  generalize hres : (s.applyImage image).resumes image = resumes at hdec ⊢
  constructor
  · refine State.ReserveRowLaw.of_kept (s := s) (p := resumes) (fun c hc => ?_) (fun c hc bank j => ?_) (fun i => ?_) hs
    · rw [hdec, if_pos hc]
    · rw [State.InUse, hdec, if_neg (by simp [hc])]
      exact Channel.freshReserve_not_inUse _ bank j
    · rw [State.decided, hres, State.decideResumption_entry, State.applyImage_table]
  · intro c hc ht
    rw [hdec, if_neg (by simp [hc])] at ht ⊢
    have hin := setupOf_toBeTested (image := image) (store := storeOf image) (ch := c) ht
    have hgeo : (setupOf image (storeOf image) c).settings = some (settingsOf image c) := by
      simp only [setupOf]; rw [if_pos hin]
    have hg : ({ s.chan[c.val] with setup := setupOf image (storeOf image) c : Channel }).afresh.geometry
        = recordedGeometry image c := by
      simp only [Channel.geometry, Channel.afresh, hgeo]; rfl
    have hu : ({ s.chan[c.val] with setup := setupOf image (storeOf image) c : Channel }).untested = false := by
      simp only [Channel.toBeTested, Channel.afresh, Bool.and_eq_true, beq_iff_eq] at ht
      simp [Channel.untested, ht.2]
    have hfresh : ({ s.chan[c.val] with setup := setupOf image (storeOf image) c : Channel }).afresh.allocation.reserve
        = List.replicate (recordedGeometry image c).banks (List.replicate (recordedGeometry image c).q .untested) := by
      show Channel.freshReserve _ = _
      rw [Channel.freshReserve, hu, if_neg (by simp)]
      rw [← hg]; rfl
    rw [hg, hfresh]
    refine ⟨?_, fun bank j hb hj => by rw [reserveAt_replicate, if_pos ⟨hb, hj⟩]; rfl⟩
    simp only [Geometry.inRange, Bool.and_eq_true, decide_eq_true_eq] at hin
    exact hin.1.1.1.1.1

/-! ## The steps -/

/-- Every way a step goes keeps the law of the reserve rows. -/
theorem State.Goes.reserveRowLaw {c : Instr} {s t : State} (h : s.Goes c t) (hs : s.ReserveRowLaw) : t.ReserveRowLaw := by
  cases h with
  | same h => exact hs.congr h
  | powerOn => exact lawsHoldAtReset.2.2.2.2.1
  | warm =>
    refine State.ReserveRowLaw.of_kept (s := s) (p := fun d => s.chan[d.val].isCandidate) (fun d hd => ?_)
      (fun d hd bank j => ?_) (fun i => ?_) hs
    · rw [State.warm_chan, Channel.warm, if_pos hd]
    · rw [State.InUse, State.warm_chan, Channel.warm, if_neg (by simp [hd])]
      simp [Channel.reset, ChannelAllocation.reset_reserve]
    · have htable : s.warm.table[i.val] = s.warmEntry s.table[i.val] := by simp [State.warm]
      rw [htable, State.warmEntry, Entry.without]
      cases hr : s.table[i.val].repair? with
      | none => simp only [hr]; rfl
      | some r => cases hk : s.chan[r.channel.val].isCandidate <;> simp [hk]
  | @loadFailed u status h =>
    have hf := u.loadFailed_failsLoad status
    refine State.ReserveRowLaw.of_kept (s := u) (p := fun _ => false) (fun _ hd => by cases hd) (fun d _ bank j => ?_)
      (fun i => ?_) (hs.congr h)
    · rw [State.InUse, hf.chan d]
      show reserveAt (List.replicate 8 (List.replicate 0 ReserveState.untested)) bank j ≠ _
      rw [reserveAt_replicate]
      simp
    · rw [hf.entry i]; rfl
  | @loadGood u image order h =>
    obtain ⟨hl, hshape⟩ := State.decided_reserve image (hs.congr h)
    rw [State.loadGood_eq]
    refine State.ReserveRowLaw.foldl_place _ _ ?_
    exact State.ReserveRowLaw.of_same (t := u.loaded image) (fun _ => rfl) (fun _ => rfl)
      (State.foldl_loadCarried_reserve _ (carriedOf image) hl hshape)
  | retest ch _ h => exact State.ReserveRowLaw.prepareIfReady ch (State.ReserveRowLaw.onChan rfl (hs.congr h))
  | @abort u ch h =>
    obtain ⟨a, ha, e⟩ := u.takeAbort_eq ch
    rw [e]
    exact (State.ReserveRowLaw.aborts ha (hs.congr h)).choose
  | prepare ch h => exact ((hs.congr h).prepare ch).choose
  | append ch item h => exact State.ReserveRowLaw.onChan rfl (hs.congr h)
  | answer ch item rest h => exact State.ReserveRowLaw.onChan rfl (hs.congr h)
  | stall ch h => exact State.ReserveRowLaw.onChan rfl (hs.congr h)
  | issue ch o h => exact State.ReserveRowLaw.onChan rfl (hs.congr h)
  | discard ch o h => exact (State.ReserveRowLaw.onChan rfl (hs.congr h)).choose
  | @compare u ch o word h ho hu =>
    rw [u.engineReturn_eq ch o word hu]
    exact (State.ReserveRowLaw.of_engineFrame (operationDone_frame _ ch) (State.ReserveRowLaw.onChan rfl (hs.congr h))).choose
  | write ch h => exact (State.ReserveRowLaw.of_engineFrame (operationDone_frame _ ch) (hs.congr h)).choose
  | holdEnds ch i h => exact (State.ReserveRowLaw.of_engineFrame (takeElementAt_frame _ ch i) (hs.congr h)).choose
  | @service u f kind h =>
    refine (State.ReserveRowLaw.of_engineFrame (drainTest_frame _ f.channel) ?_).choose
    exact State.ReserveRowLaw.of_same (t := (u.serveRecord f kind).idleAllocator) (fun _ => rfl) (fun _ => rfl)
      ((hs.congr h).serveRecord f kind)
  | @analysis u ch flag h =>
    refine (State.ReserveRowLaw.of_engineFrame (analysisReport_frame _ ch) ?_).choose
    exact State.ReserveRowLaw.of_same (t := (u.analyse ch flag).idleAllocator) (fun _ => rfl) (fun _ => rfl)
      ((hs.congr h).analyse ch flag)

/-- Settles O55. -/
theorem stepKeepsReserveRowLaw : Obligations.StepKeepsReserveRowLaw :=
  State.step_keeps State.ReserveRowLaw.congr State.Goes.reserveRowLaw

end Sys2Proof.Machine

/-! PROOFS. The laws of the engines and their tokens (R80, R111 to R114, R126): one bundle of rules for each channel and one for
the arbiter, and what each action of an engine does to them. -/

namespace Sys2Proof.Machine

/-! ## The rules of one channel and of the arbiter -/

/-- The laws of a channel's run and of its token, by the item in service and the arbiter's sets (R80, R113, R126). -/
structure Channel.Sound (c : Channel) (ch : Chan) (item : AllocatorItem) (store : Vector Element 64) (holds waits : Bool) :
    Prop where
  active : c.engine.state.active = true → c.control.state.started = true
  reading : c.engine.reading = true → c.engine.state = .sweep
  queued : c.queue.records ≠ [] → c.control.state.started = true
  own : ∀ f ∈ c.queue.records, f.channel = ch
  request : c.allocation.request ≠ none → c.engine.state = .drain ∧ c.queue.records = []
  serves : item.serves ch = true → c.control.state.started = true
  analyses : item.analyses ch = true → c.engine.state = .drain ∧ c.queue.records = [] ∧ c.allocation.request = none
  holds : holds = true → c.engine.state = .sweep ∨ c.engine.state = .stall
  waits : waits = true → c.engine.state = .waitToken
  march : c.engine.state = .waitToken → (elementAt store c.engine.position).isMarch = true

/-- The arbiter's own part of the law of the activity budget (R111, R113). -/
structure Arbiter.Lawful (a : Arbiter) : Prop where
  low : 1 ≤ a.budget
  high : a.budget ≤ 4
  within : a.held ≤ a.budget
  last : a.held = a.budget → a.holders[a.lastGranted.val] = true
  full : ∀ ch : Chan, a.waiting[ch.val] = true → a.held = a.budget

/-- A channel is sound in a state. -/
def State.Sound (s : State) (ch : Chan) : Prop :=
  s.chan[ch.val].Sound ch s.allocator.item s.store s.arbiter.holders[ch.val] s.arbiter.waiting[ch.val]

/-- The engines, their tokens and the allocator's work agree. -/
structure State.EngineLaw (s : State) : Prop where
  sound : ∀ ch : Chan, s.Sound ch
  tokens : s.arbiter.Lawful

/-- Once the loader is FINISHED no channel is held over (R157). -/
def State.NoneHeldOver (s : State) : Prop :=
  s.loader.phase = .finished → ∀ ch : Chan, s.chan[ch.val].control.candidate = false

/-- The law of a run, by its parts. -/
theorem State.runLaw_iff (s : State) :
    s.RunLaw ↔ s.WaitsForLoader ∧ s.NoneHeldOver ∧ s.EngineLaw ∧ s.EntryStateLaw := by
  constructor
  · rintro ⟨hw, hc, ⟨low, high, within, holds, waits, march, last, full⟩, he⟩
    refine ⟨hw, fun hf ch => (hc ch).2.2.2.2.2.2.2 hf, ⟨fun ch => ?_, ⟨low, high, within, last, full⟩⟩, he⟩
    obtain ⟨active, reading, queued, own, request, serves, analyses, -⟩ := hc ch
    exact ⟨active, reading, queued, own, request, serves, analyses, holds ch, waits ch, march ch⟩
  · rintro ⟨hw, hn, ⟨hs, ha⟩, he⟩
    refine ⟨hw, fun ch => ⟨(hs ch).active, (hs ch).reading, (hs ch).queued, (hs ch).own, (hs ch).request, (hs ch).serves,
      (hs ch).analyses, fun hf => hn hf ch⟩, ⟨ha.low, ha.high, ha.within, fun ch => (hs ch).holds, fun ch => (hs ch).waits,
      fun ch => (hs ch).march, ha.last, ha.full⟩, he⟩

/-- The parts of a channel that its run's laws speak of. -/
structure ChannelRun where
  state : ChannelState
  engine : EngineState
  position : Nat
  outstanding : Option OutstandingRead
  records : List FailRecord
  request : Option Bool

def Channel.run (c : Channel) : ChannelRun :=
  { state := c.control.state, engine := c.engine.state, position := c.engine.position,
    outstanding := c.engine.outstanding, records := c.queue.records, request := c.allocation.request }

theorem Channel.Sound.congr {c d : Channel} {ch : Chan} {item : AllocatorItem} {store : Vector Element 64} {holds waits : Bool}
    (h : d.run = c.run) (hs : c.Sound ch item store holds waits) : d.Sound ch item store holds waits := by
  have hstate : d.control.state = c.control.state := congrArg ChannelRun.state h
  have hengine : d.engine.state = c.engine.state := congrArg ChannelRun.engine h
  have hposition : d.engine.position = c.engine.position := congrArg ChannelRun.position h
  have hreading : d.engine.reading = c.engine.reading := by
    simp only [Engine.reading, show d.engine.outstanding = c.engine.outstanding from congrArg ChannelRun.outstanding h]
  have hrecords : d.queue.records = c.queue.records := congrArg ChannelRun.records h
  have hrequest : d.allocation.request = c.allocation.request := congrArg ChannelRun.request h
  obtain ⟨active, reading, queued, own, request, serves, analyses, holds, waits, march⟩ := hs
  constructor <;> simp only [hstate, hengine, hposition, hreading, hrecords, hrequest] <;> assumption

/-- A channel is not waiting outside WAIT_TOKEN. -/
theorem Channel.Sound.not_waiting {c : Channel} {ch : Chan} {item : AllocatorItem} {store : Vector Element 64}
    {holds waits : Bool} (h : c.Sound ch item store holds waits) (hs : c.engine.state ≠ .waitToken) : waits = false := by
  rw [Bool.eq_false_iff]
  exact fun hw => hs (h.waits hw)

/-- Outside DRAIN a channel has no analysis before the allocator. -/
theorem Channel.Sound.no_analysis {c : Channel} {ch : Chan} {item : AllocatorItem} {store : Vector Element 64}
    {holds waits : Bool} (h : c.Sound ch item store holds waits) (hs : c.engine.state ≠ .drain) :
    c.allocation.request = none ∧ item.analyses ch = false := by
  refine ⟨?_, ?_⟩
  · by_contra hr
    exact hs (h.request hr).1
  · rw [Bool.eq_false_iff]
    exact fun ha => hs (h.analyses ha).1

namespace State.EngineLaw

variable {s t : State}

/-- The law survives a change of one channel that leaves it sound. -/
theorem of_chan (ch : Chan) (ha : t.arbiter = s.arbiter) (hi : t.allocator.item = s.allocator.item) (he : t.store = s.store)
    (ho : ∀ c : Chan, ch ≠ c → t.chan[c.val].run = s.chan[c.val].run)
    (hc : t.chan[ch.val].Sound ch s.allocator.item s.store s.arbiter.holders[ch.val] s.arbiter.waiting[ch.val])
    (hs : s.EngineLaw) : t.EngineLaw := by
  refine ⟨fun c => ?_, ha ▸ hs.tokens⟩
  rw [State.Sound, ha, hi, he]
  by_cases e : ch = c
  · subst e; exact hc
  · exact (hs.sound c).congr (ho c e)

theorem of_run (ha : t.arbiter = s.arbiter) (hi : t.allocator.item = s.allocator.item) (he : t.store = s.store)
    (ho : ∀ c : Chan, t.chan[c.val].run = s.chan[c.val].run) (hs : s.EngineLaw) : t.EngineLaw :=
  hs.of_chan 0 ha hi he (fun c _ => ho c) ((hs.sound 0).congr (ho 0))

theorem onChan {ch : Chan} {f : Channel → Channel}
    (hc : (f s.chan[ch.val]).Sound ch s.allocator.item s.store s.arbiter.holders[ch.val] s.arbiter.waiting[ch.val])
    (hs : s.EngineLaw) : (s.onChan ch f).EngineLaw :=
  State.EngineLaw.of_chan (s := s) (t := s.onChan ch f) ch rfl rfl rfl (fun c h => by rw [State.onChan_other _ h])
    (by rw [State.onChan_same]; exact hc) hs

theorem of_sameWork (h : s.SameWork t) (hs : s.EngineLaw) : t.EngineLaw :=
  hs.of_run h.arbiter (by rw [h.allocator]) h.store fun c => by
    simp only [Channel.run, h.control c, h.state c, h.position c, h.outstanding c, h.records c, h.allocation c]

/-! ## Tokens -/

/-- A channel in WAIT_TOKEN is granted a token, out of an arbiter `a` that holds fewer than K (R84, R112, R113). -/
theorem grant {ch : Chan} {a : Arbiter} (hw : s.chan[ch.val].engine.state = .waitToken)
    (hh : ∀ c : Chan, a.holders[c.val] = true → s.arbiter.holders[c.val] = true) (hn : a.holders[ch.val] = false)
    (ha : a.waiting = s.arbiter.waiting) (hb : a.budget = s.arbiter.budget) (hlt : a.held < a.budget)
    (hfull : ∀ c : Chan, a.waiting[c.val] = true → a.held + 1 = a.budget) (hs : s.EngineLaw) :
    ((s.setArbiter (a.grant ch)).startSweep ch).EngineLaw := by
  have hc := hs.sound ch
  have held := a.held_grant ch hn
  cases hm : elementAt s.store s.chan[ch.val].engine.position with
  | march m =>
    rw [State.startSweep_march (s.setArbiter (a.grant ch)) ch m hm]
    refine ⟨fun c => ?_, ⟨?_, ?_, ?_, fun _ => ?_, fun c h => ?_⟩⟩
    · have other := hs.sound c
      rw [State.Sound, State.onEngine_chan]
      simp only [State.onEngine_arbiter, State.setArbiter_arbiter, State.onEngine_store, State.setArbiter_store,
        State.onEngine_allocator, State.setArbiter_allocator, State.setArbiter_chan, Arbiter.grant_holders,
        Arbiter.grant_waiting, ha]
      by_cases e : ch = c
      · subst e
        obtain ⟨hr, hi⟩ := hc.no_analysis (by simp [hw])
        simp only [if_pos]
        exact ⟨fun _ => hc.active (by rw [hw]; rfl), fun _ => rfl, hc.queued, hc.own, fun h => absurd hr h, hc.serves,
          fun h => absurd h (by simp [hi]), fun _ => .inl rfl, (nomatch ·), (nomatch ·)⟩
      · simp only [if_neg e]
        exact { other with holds := fun h => other.holds (hh c h) }
    · exact hb ▸ hs.tokens.low
    · exact hb ▸ hs.tokens.high
    · show (a.grant ch).held ≤ a.budget
      omega
    · show (a.grant ch).holders[ch.val] = true
      simp
    · have h' : (a.grant ch).waiting[c.val] = true := h
      rw [Arbiter.grant_waiting] at h'
      split at h'
      · cases h'
      · show (a.grant ch).held = a.budget
        rw [held]
        exact hfull c h'
  | _ => have := hc.march hw; rw [hm] at this; cases this

/-- A channel that holds none asks for a token in WAIT_TOKEN: with fewer than K held it sweeps at once, and else it waits
(R84, R112). -/
theorem requestToken {ch : Chan} (hw : s.chan[ch.val].engine.state = .waitToken) (hh : s.arbiter.holders[ch.val] = false)
    (hs : s.EngineLaw) : (s.requestToken ch).EngineLaw := by
  obtain ⟨low, high, within, last, full⟩ := hs.tokens
  unfold State.requestToken
  split
  · rename_i hlt
    exact hs.grant hw (fun _ h => h) hh rfl rfl hlt fun c h => absurd (full c h) (by omega)
  · rename_i hge
    refine ⟨fun c => ?_, ⟨low, high, within, last, fun c h => ?_⟩⟩
    · have other := hs.sound c
      simp only [State.Sound, State.setArbiter_arbiter, State.setArbiter_store, State.setArbiter_allocator,
        State.setArbiter_chan, Arbiter.wait_holders, Arbiter.wait_waiting]
      split
      · rename_i e
        subst e
        exact { other with waits := fun _ => hw }
      · exact other
    · show s.arbiter.held = s.arbiter.budget
      omega

/-- A release frees the token or gives it to a channel in WAIT_TOKEN, which sweeps (R113). -/
theorem releaseToken {ch : Chan} (hs : s.EngineLaw) : (s.releaseToken ch).EngineLaw := by
  obtain ⟨low, high, within, last, full⟩ := hs.tokens
  cases hh : s.arbiter.holders[ch] with
  | false => rw [s.releaseToken_none ch hh]; exact hs
  | true =>
    have held := s.arbiter.held_drop ch hh
    have drop (c : Chan) (h : (s.arbiter.drop ch).holders[c.val] = true) : s.arbiter.holders[c.val] = true := by
      rw [Arbiter.drop_holders] at h
      split at h
      · cases h
      · exact h
    cases hc : (s.arbiter.drop ch).chosen with
    | none =>
      rw [s.releaseToken_free ch hh hc]
      refine ⟨fun c => ?_, ⟨low, high, ?_, fun h => ?_, fun c h => ?_⟩⟩
      · exact { hs.sound c with holds := fun h => (hs.sound c).holds (drop c h) }
      · show (s.arbiter.drop ch).held ≤ s.arbiter.budget
        omega
      · have : (s.arbiter.drop ch).held = s.arbiter.budget := h
        omega
      · have hwait : s.arbiter.waiting[c.val] = true := h
        by_cases e : c = s.arbiter.lastGranted
        · subst e
          have hstate := (hs.sound _).waits hwait
          have := (hs.sound _).holds (last (full _ hwait))
          rw [hstate] at this
          simp at this
        · have := Arbiter.not_waiting_of_chosen_none (s.arbiter.drop ch) c hc e
          rw [Arbiter.drop_waiting, hwait] at this
          cases this
    | some next =>
      have hwait : s.arbiter.waiting[next.val] = true := Arbiter.waiting_of_chosen _ hc
      have hstate := (hs.sound next).waits hwait
      have hfull := full next hwait
      rw [s.releaseToken_pass ch next hh hc]
      refine hs.grant hstate drop ?_ rfl rfl ?_ fun c h => ?_
      · rw [Bool.eq_false_iff]
        intro h
        have := (hs.sound next).holds (drop next h)
        rw [hstate] at this
        simp at this
      · rw [Arbiter.drop_budget]
        omega
      · rw [Arbiter.drop_budget]
        omega

end State.EngineLaw

end Sys2Proof.Machine

namespace Sys2Proof.Machine

/-! ## The engine's waits and the end of a run -/

/-- A channel whose engine has issued the final CLOSE ALL and entered DONE (R98, R104). -/
def Channel.done (c : Channel) : Channel :=
  { c with
    pins := { c.pins with toDevice := c.pins.toDevice ++ [.closeAll] }
    engine := { c.engine with banks := allClosed, state := .done }
    timers := { c.timers with refreshMode := .stopped, refreshElapsed := 0 } }

theorem State.finishRun_eq (s : State) (ch : Chan) : s.finishRun ch =
    if s.chan[ch.val].control.state = .analysing then (s.onChan ch Channel.done).endRun ch else s.onChan ch Channel.done := by
  have hu : ((s.engineCloseAll ch).onEngine ch fun e => { e with state := .done }).onTimers ch Timers.stopRefresh
      = s.onChan ch Channel.done := by
    simp only [State.engineCloseAll, State.drive_eq, State.onEngine_eq, State.onTimers_eq, State.onChan_onChan]
    rfl
  unfold State.finishRun
  simp only [hu, Fin.getElem_fin, State.onChan_same]
  rfl

/-- A channel without a run in progress, with no work and no token, is sound. -/
theorem Channel.Sound.at_rest {c : Channel} {ch : Chan} {item : AllocatorItem} {store : Vector Element 64} {holds waits : Bool}
    (he : c.engine.state.active = false) (hr : c.engine.reading = false) (hq : c.queue.records = [])
    (hp : c.allocation.request = none) (hi : item.serves ch = false) (ha : item.analyses ch = false) (hh : holds = false)
    (hw : waits = false) : c.Sound ch item store holds waits where
  active h := absurd h (by simp [he])
  reading h := absurd h (by simp [hr])
  queued h := absurd hq h
  own := by simp [hq]
  request h := absurd hp h
  serves h := absurd h (by simp [hi])
  analyses h := absurd h (by simp [ha])
  holds h := absurd h (by simp [hh])
  waits h := absurd h (by simp [hw])
  march h := by rw [h] at he; cases he

namespace State.EngineLaw

variable {s t : State} {ch : Chan}

/-- The request of an engine whose queue is empty in DRAIN (R97). -/
theorem placeRequest (hd : s.chan[ch.val].engine.state = .drain) (hr : s.chan[ch.val].queue.records = [])
    (hi : s.allocator.item.analyses ch = false) (hs : s.EngineLaw) : (s.placeRequest ch).EngineLaw := by
  unfold State.placeRequest
  rw [State.onAllocation_eq]
  exact onChan { hs.sound ch with request := fun _ => ⟨hd, hr⟩, analyses := fun h => absurd h (by simp [hi]) } hs

/-- The end of a run from DRAIN, with nothing of the channel's before the allocator (R98, R150). -/
theorem finishRun (hd : s.chan[ch.val].engine.state = .drain) (hr : s.chan[ch.val].queue.records = [])
    (hp : s.chan[ch.val].allocation.request = none) (hi : s.allocator.item.serves ch = false)
    (ha : s.allocator.item.analyses ch = false) (hs : s.EngineLaw) : (s.finishRun ch).EngineLaw := by
  have hc := hs.sound ch
  have hread : s.chan[ch.val].engine.reading = false := by
    rw [Bool.eq_false_iff]
    intro h
    have := hc.reading h
    rw [hd] at this
    cases this
  have hhold : s.arbiter.holders[ch.val] = false := by
    rw [Bool.eq_false_iff]
    intro h
    have := hc.holds h
    rw [hd] at this
    simp at this
  have hwait := hc.not_waiting (by simp [hd])
  have law : (s.onChan ch Channel.done).EngineLaw := onChan (.at_rest rfl hread hr hp hi ha hhold hwait) hs
  rw [State.finishRun_eq]
  split
  · obtain ⟨hstore, -, hal, -, -, -, -, harb⟩ := (s.onChan ch Channel.done).endRun_rest ch
    refine law.of_chan ch harb (by rw [hal]) hstore (fun c h => by rw [State.endRun_chan_other _ h]) ?_
    cases hcond : (s.onChan ch Channel.done).chan[ch.val].condemned with
    | true =>
      rw [State.endRun_chan_condemned _ ch hcond, State.onChan_same]
      exact .at_rest rfl hread hr hp hi ha hhold hwait
    | false =>
      rw [State.endRun_chan_served _ ch hcond, State.onChan_same]
      exact .at_rest rfl hread hr hp hi ha hhold hwait
  · exact law

/-- The test of the drain condition (R96 to R98). -/
theorem drainTest (ch : Chan) (hs : s.EngineLaw) : (s.drainTest ch).EngineLaw := by
  unfold State.drainTest
  dsimp only
  split
  · rename_i h
    obtain ⟨hd, hdrained, hp, ha⟩ := h
    simp only [State.drained, Bool.and_eq_true, List.isEmpty_iff, Bool.not_eq_true'] at hdrained
    obtain ⟨hr, hi⟩ := hdrained
    rw [Bool.not_eq_true] at ha
    have place := hs.placeRequest hd hr ha
    split
    · exact place
    · split
      · exact place
      · exact hs.finishRun hd hr hp hi ha
    all_goals exact hs
  · exact hs

end State.EngineLaw

/-! ## Taking an element -/

/-- The engine of a channel may take an element: its run has begun, it reads nothing, and it neither holds nor wants a token or
an analysis (R83). -/
structure State.CanTake (s : State) (ch : Chan) : Prop where
  started : s.chan[ch.val].control.state.started = true
  reading : s.chan[ch.val].engine.reading = false
  holds : s.arbiter.holders[ch.val] = false
  state : s.chan[ch.val].engine.state ≠ .waitToken
  request : s.chan[ch.val].allocation.request = none
  analyses : s.allocator.item.analyses ch = false

namespace State.EngineLaw

variable {s t : State} {ch : Chan}

/-- An engine that may take an element can come to stand anywhere but in SWEEP or STALL, if a MARCH is at its position in
WAIT_TOKEN, as long as its channel's run goes on. -/
theorem of_canTake (hc : s.CanTake ch) (hs : s.EngineLaw) {d : Channel} (hst : d.control.state.started = true)
    (ho : d.engine.outstanding = s.chan[ch.val].engine.outstanding) (hq : d.queue.records = s.chan[ch.val].queue.records)
    (hp : d.allocation.request = s.chan[ch.val].allocation.request)
    (hm : d.engine.state = .waitToken → (elementAt s.store d.engine.position).isMarch = true) :
    d.Sound ch s.allocator.item s.store s.arbiter.holders[ch.val] s.arbiter.waiting[ch.val] := by
  have hread : d.engine.reading = false := by
    have := hc.reading
    simpa only [Engine.reading, ho] using this
  exact {
    active := fun _ => hst
    reading := fun h => absurd h (by simp [hread])
    queued := fun _ => hst
    own := hq ▸ (hs.sound ch).own
    request := fun h => absurd (hp.trans hc.request) h
    serves := fun _ => hst
    analyses := fun h => absurd h (by simp [hc.analyses])
    holds := fun h => absurd h (by simp [hc.holds])
    waits := fun h => absurd h (by simp [(hs.sound ch).not_waiting hc.state])
    march := hm }

/-- The beginning of a chain at a MARCH (R84). -/
theorem beginChain (m : March) (chain : List Nat) (hm : elementAt s.store s.chan[ch.val].engine.position = .march m)
    (hc : s.CanTake ch) (hs : s.EngineLaw) : (s.beginChain ch m chain).EngineLaw := by
  unfold State.beginChain
  dsimp only
  rw [State.serviceOwed_eq, State.onEngine_eq, State.onChan_onChan]
  refine requestToken (by rw [State.onChan_same]) hc.holds (onChan ?_ hs)
  exact of_canTake hc hs hc.started rfl rfl rfl fun _ => by rw [hm]; rfl

/-- Taking an element, through REPEATs (R83). -/
theorem takeElement (ch : Chan) (fuel : Nat) (s : State) (hc : s.CanTake ch) (hs : s.EngineLaw) :
    (State.takeElement ch fuel s).EngineLaw := by
  have drain {s : State} {takenIn : List ChannelState} (hc : s.CanTake ch) (hs : s.EngineLaw) :
      (s.enterDrain ch takenIn).EngineLaw := by
    rw [State.enterDrain_eq]
    refine drainTest ch (onChan (of_canTake hc hs ?_ rfl rfl rfl (nomatch ·)) hs)
    show ChannelState.started (if s.chan[ch.val].control.state ∈ takenIn then .analysing else s.chan[ch.val].control.state) = true
    split
    · rfl
    · exact hc.started
  induction fuel generalizing s with
  | zero => exact hs
  | succ fuel ih =>
    have go (f : Engine → Engine) (hst : (f s.chan[ch.val].engine).state = s.chan[ch.val].engine.state)
        (ho : (f s.chan[ch.val].engine).outstanding = s.chan[ch.val].engine.outstanding) :
        (State.takeElement ch fuel (s.onEngine ch f)).EngineLaw := by
      refine ih _ ?_ ?_
      · constructor <;> simp only [State.onEngine_same, State.onEngine_arbiter, State.onEngine_allocator, Engine.reading, hst, ho]
        · exact hc.started
        · exact hc.reading
        · exact hc.holds
        · exact hc.state
        · exact hc.request
        · exact hc.analyses
      · rw [State.onEngine_eq]
        exact onChan (of_canTake hc hs hc.started ho rfl rfl fun h => absurd (hst.symm.trans h) hc.state) hs
    unfold State.takeElement
    dsimp only
    split
    · rename_i m hm
      split
      · exact beginChain m _ hm hc hs
      · exact hs
    · rw [State.enterHold_eq]
      exact onChan (of_canTake hc hs hc.started rfl rfl rfl (nomatch ·)) hs
    · split
      · exact go _ rfl rfl
      · split <;> exact go _ rfl rfl
    · exact drain hc hs
    · exact drain hc hs
    · exact hs
    · exact hs

theorem takeElementAt (i : Nat) (hc : s.CanTake ch) (hs : s.EngineLaw) : (s.takeElementAt ch i).EngineLaw := by
  unfold State.takeElementAt
  refine takeElement ch _ _ ?_ ?_
  · constructor <;> simp only [State.onEngine_same, State.onEngine_arbiter, State.onEngine_allocator]
    · exact hc.started
    · exact hc.reading
    · exact hc.holds
    · exact hc.state
    · exact hc.request
    · exact hc.analyses
  · rw [State.onEngine_eq]
    exact onChan (of_canTake hc hs hc.started rfl rfl rfl fun h => absurd h hc.state) hs

end State.EngineLaw
end Sys2Proof.Machine

namespace Sys2Proof.Machine

/-! ## The end of an operation, a sweep and an analysis -/

theorem State.startSweep_other (s : State) {ch c : Chan} (h : ch ≠ c) : (s.startSweep ch).chan[c.val] = s.chan[c.val] := by
  unfold State.startSweep
  dsimp only
  split
  · rw [State.onEngine_other _ h]
  all_goals rfl

/-- A release leaves its channel as it is when it does not wait. -/
theorem State.releaseToken_same (s : State) (ch : Chan) (h : s.arbiter.waiting[ch.val] = false) :
    (s.releaseToken ch).chan[ch.val] = s.chan[ch.val] := by
  cases hh : s.arbiter.holders[ch] with
  | false => rw [s.releaseToken_none ch hh]
  | true =>
    cases hc : (s.arbiter.drop ch).chosen with
    | none => rw [s.releaseToken_free ch hh hc]; rfl
    | some next =>
      have hw := Arbiter.waiting_of_chosen _ hc
      rw [s.releaseToken_pass ch next hh hc, State.startSweep_other]
      · rfl
      · rintro rfl
        rw [Arbiter.drop_waiting, h] at hw
        cases hw

namespace State.EngineLaw

variable {s t : State} {ch : Chan}

/-- A change of the engine that its laws do not speak of. -/
theorem onEngine {f : Engine → Engine} (hst : (f s.chan[ch.val].engine).state = s.chan[ch.val].engine.state)
    (hp : (f s.chan[ch.val].engine).position = s.chan[ch.val].engine.position)
    (ho : (f s.chan[ch.val].engine).outstanding = s.chan[ch.val].engine.outstanding) (hs : s.EngineLaw) :
    (s.onEngine ch f).EngineLaw := by
  rw [State.onEngine_eq]
  exact onChan ((hs.sound ch).congr (by simp only [Channel.run, hst, hp, ho])) hs

/-- The end of a sweep gives the token back and takes the element after the chain (R92). -/
theorem endChain (hw : s.chan[ch.val].engine.state = .sweep) (hr : s.chan[ch.val].engine.reading = false)
    (hs : s.EngineLaw) : (s.endChain ch).EngineLaw := by
  have hc := hs.sound ch
  have hwait := hc.not_waiting (by simp [hw])
  obtain ⟨hreq, han⟩ := hc.no_analysis (by simp [hw])
  unfold State.endChain
  dsimp only
  generalize hu : s.onEngine ch _ = u
  have law : u.EngineLaw := by rw [← hu]; exact hs.onEngine rfl rfl rfl
  have harb : u.arbiter = s.arbiter := by rw [← hu]; rfl
  have hwait' : u.arbiter.waiting[ch.val] = false := by simp only [harb, hwait]
  refine takeElementAt _ ?_ law.releaseToken
  have hsame := u.releaseToken_same ch hwait'
  refine ⟨?_, ?_, (u.releaseToken_holders ch hwait').1, ?_, ?_, ?_⟩
  · rw [hsame, ← hu, State.onEngine_same]; exact hc.active (by rw [hw]; rfl)
  · rw [hsame, ← hu, State.onEngine_same]; exact hr
  · rw [hsame, ← hu, State.onEngine_same]; simp [hw]
  · rw [hsame, ← hu, State.onEngine_same]; exact hreq
  · rw [(releaseToken_frame u ch).allocator, ← hu]; exact han

/-- The end of an operation (R85, R92). -/
theorem operationDone (hw : s.chan[ch.val].engine.state = .sweep) (hr : s.chan[ch.val].engine.reading = false)
    (hs : s.EngineLaw) : (s.operationDone ch).EngineLaw := by
  unfold State.operationDone State.advance
  split
  · exact hs.onEngine rfl rfl rfl
  · split
    · split
      · exact hs.onEngine rfl rfl rfl
      · exact hs.endChain hw hr
    · exact hs

/-- The report of an analysis to an engine with nothing before the allocator (R97, R98). -/
theorem analysisReport (hq : s.chan[ch.val].queue.records = []) (hp : s.chan[ch.val].allocation.request = none)
    (hi : s.allocator.item = .idle) (hs : s.EngineLaw) : (s.analysisReport ch).EngineLaw := by
  have hserves : s.allocator.item.serves ch = false := by rw [hi]; rfl
  have han : s.allocator.item.analyses ch = false := by rw [hi]; rfl
  unfold State.analysisReport
  split
  · rename_i hd
    have hd : s.chan[ch.val].engine.state = .drain := hd
    have hc := hs.sound ch
    have hstarted := hc.active (by rw [hd]; rfl)
    split
    · rw [State.report_eq, State.onEngine_eq, State.onControl_eq, State.onChan_onChan]
      have ready : s.CanTake ch := by
        refine ⟨hstarted, ?_, ?_, by simp [hd], hp, han⟩
        · rw [Bool.eq_false_iff]
          intro h
          have := hc.reading h
          rw [hd] at this
          cases this
        · rw [Bool.eq_false_iff]
          intro h
          have := hc.holds h
          rw [hd] at this
          simp at this
      have hst : ChannelState.started (if s.chan[ch.val].control.state ∈ [ChannelState.analysing] then .verifying
          else s.chan[ch.val].control.state) = true := by
        split
        · rfl
        · exact hstarted
      refine takeElementAt _ ?_ (onChan (of_canTake ready hs hst rfl rfl rfl fun h => absurd h ready.state) hs)
      constructor <;> simp only [State.onChan_same, State.onChan_arbiter, State.onChan_allocator]
      · exact hst
      · exact ready.reading
      · exact ready.holds
      · exact ready.state
      · exact ready.request
      · exact ready.analyses
    · exact hs.finishRun hd hq hp hserves han
    all_goals exact hs
  · exact hs

/-! ## The allocator -/

theorem idleAllocator (hs : s.EngineLaw) : s.idleAllocator.EngineLaw :=
  ⟨fun c => { hs.sound c with serves := (nomatch ·), analyses := (nomatch ·) }, hs.tokens⟩

/-- A change of the item in service that serves or analyses no other channel. -/
theorem take {a : Allocator} {f : Channel → Channel} (hi : ∀ c : Chan, ch ≠ c → a.item.serves c = false ∧ a.item.analyses c = false)
    (hc : (f s.chan[ch.val]).Sound ch a.item s.store s.arbiter.holders[ch.val] s.arbiter.waiting[ch.val])
    (hs : s.EngineLaw) : ((s.setAllocator a).onChan ch f).EngineLaw := by
  refine ⟨fun c => ?_, hs.tokens⟩
  rw [State.Sound, State.onChan_chan]
  split
  · rename_i e; subst e; exact hc
  · rename_i e
    obtain ⟨h1, h2⟩ := hi c e
    exact { hs.sound c with serves := fun h => absurd h (by simp [h1]), analyses := fun h => absurd h (by simp [h2]) }

/-- The take of a channel's work (R126, R127). -/
theorem takeWork (ch : Chan) (hs : s.EngineLaw) : (s.takeWork ch).EngineLaw := by
  have hc := hs.sound ch
  cases hq : s.chan[ch.val].queue.records with
  | cons f rest =>
    have hstarted := hc.queued (by simp [hq])
    have hown := hc.own f (by simp [hq])
    have hreq : s.chan[ch.val].allocation.request = none := by
      by_contra h
      have := (hc.request h).2
      rw [hq] at this
      cases this
    rw [s.takeWork_record ch f rest hq, State.onChan_congr _ ch (g := fun c => { c with
      queue := { c.queue with records := rest }
      engine := { c.engine with state := if s.chan[ch.val].engine.state = .stall ∧ rest.length < 16 then .sweep
        else s.chan[ch.val].engine.state } }) rfl]
    generalize hx : (if s.chan[ch.val].engine.state = .stall ∧ rest.length < 16 then .sweep
      else s.chan[ch.val].engine.state) = x
    have hunstall : x = s.chan[ch.val].engine.state ∨ s.chan[ch.val].engine.state = .stall ∧ x = .sweep := by
      rw [← hx]
      split
      · rename_i h; exact .inr ⟨h.1, rfl⟩
      · exact .inl rfl
    refine take (fun c h => ⟨?_, rfl⟩) ?_ hs
    · rw [AllocatorItem.serves, beq_eq_false_iff_ne, hown]; exact h
    · exact {
        active := fun _ => hstarted
        reading := fun h => by
          rcases hunstall with e | ⟨-, e⟩
          · exact e.trans (hc.reading h)
          · exact e
        queued := fun _ => hstarted
        own := fun g hg => hc.own g (by rw [hq]; exact List.mem_cons_of_mem f hg)
        request := fun h => absurd hreq h
        serves := fun _ => hstarted
        analyses := (nomatch ·)
        holds := fun h => by
          rcases hunstall with e | ⟨-, e⟩
          · exact e ▸ hc.holds h
          · exact .inl e
        waits := fun h => by
          rcases hunstall with e | ⟨e, -⟩
          · exact e.trans (hc.waits h)
          · rw [hc.waits h] at e; cases e
        march := fun h => by
          rcases hunstall with e | ⟨-, e⟩
          · exact hc.march (e.symm.trans h)
          · cases e.symm.trans h }
  | nil =>
    cases hr : s.chan[ch.val].allocation.request with
    | none =>
      have : s.takeWork ch = s := by simp [State.takeWork, hq, hr]
      rw [this]; exact hs
    | some flag =>
      rw [s.takeWork_analysis ch flag hq hr, State.onAllocation_eq]
      refine take (fun c h => ⟨rfl, ?_⟩) ?_ hs
      · rw [AllocatorItem.analyses, beq_eq_false_iff_ne]; exact h
      · exact { hc with
          serves := (nomatch ·), request := fun h => absurd rfl h
          analyses := fun _ => ⟨(hc.request (by simp [hr])).1, hq, rfl⟩ }

theorem choose (hs : s.EngineLaw) : s.choose.EngineLaw := by
  rcases s.choose_cases with ⟨e, -⟩ | ⟨ch, -, -, e⟩
  · rw [e]; exact hs
  · rw [e]; exact hs.takeWork ch

/-! ## The start of a run -/

/-- A channel whose run has not begun has no work and no token. -/
theorem rests (hs : s.EngineLaw) (h : s.chan[ch.val].control.state.started = false) :
    s.chan[ch.val].engine.state.active = false ∧ s.chan[ch.val].engine.reading = false ∧ s.chan[ch.val].queue.records = []
      ∧ s.chan[ch.val].allocation.request = none ∧ s.allocator.item.serves ch = false
      ∧ s.allocator.item.analyses ch = false ∧ s.arbiter.holders[ch.val] = false ∧ s.arbiter.waiting[ch.val] = false := by
  have hc := hs.sound ch
  have hidle : s.chan[ch.val].engine.state.active = false := by
    rw [Bool.eq_false_iff]
    intro h'
    rw [hc.active h'] at h
    cases h
  have hne (x : EngineState) (hx : x.active = true) : s.chan[ch.val].engine.state ≠ x := by
    rintro rfl
    rw [hidle] at hx
    cases hx
  obtain ⟨hr, ha⟩ := hc.no_analysis (hne _ rfl)
  refine ⟨hidle, ?_, ?_, hr, ?_, ha, ?_, hc.not_waiting (hne _ rfl)⟩
  · rw [Bool.eq_false_iff]; exact fun h' => hne _ rfl (hc.reading h')
  · by_contra h'; rw [hc.queued h'] at h; cases h
  · rw [Bool.eq_false_iff]; intro h'; rw [hc.serves h'] at h; cases h
  · rw [Bool.eq_false_iff]; exact fun h' => (hc.holds h').elim (hne _ rfl) (hne _ rfl)

/-- PREPARING's steps start the engine of a channel at rest (R82, R149). -/
theorem prepare (h : s.chan[ch.val].control.state.started = false) (hs : s.EngineLaw) : (s.prepare ch).EngineLaw := by
  obtain ⟨hidle, hread, hq, hreq, hserves, han, hholds, hwaits⟩ := hs.rests h
  obtain ⟨e, he, hp⟩ := s.prepare_eq ch
  have hstate : s.chan[ch.val].engine.state ≠ .waitToken := by
    intro h'
    rw [h'] at hidle
    cases hidle
  rw [hp]
  refine takeElementAt _ ?_ (hs.of_chan ch he.rest.arbiter (by rw [he.rest.allocator]) he.rest.store
    (fun c hc => by rw [he.other c hc]) ?_)
  · refine ⟨?_, ?_, by rw [he.rest.arbiter]; exact hholds, ?_, ?_, by rw [he.rest.allocator]; exact han⟩ <;> rw [he.same]
    · rfl
    · exact hread
    · exact hstate
    · exact hreq
  · rw [he.same]
    exact .at_rest hidle hread hq hreq hserves han hholds hwaits

theorem prepareIfReady (ch : Chan) (hs : s.EngineLaw) : (s.prepareIfReady ch).EngineLaw := by
  unfold State.prepareIfReady
  split
  · rename_i h
    exact (hs.prepare (by rw [show s.chan[ch.val].control.state = .preparing from h.1]; rfl)).choose
  · exact hs

/-- A channel whose run has not begun may be put into any state. -/
theorem onControl {f : Control → Control} (h : s.chan[ch.val].control.state.started = false) (hs : s.EngineLaw) :
    (s.onControl ch f).EngineLaw := by
  obtain ⟨hidle, hread, hq, hreq, hserves, han, hholds, hwaits⟩ := hs.rests h
  rw [State.onControl_eq]
  exact onChan (.at_rest hidle hread hq hreq hserves han hholds hwaits) hs

end State.EngineLaw
end Sys2Proof.Machine

namespace Sys2Proof.Machine

/-! ## Abort -/

namespace State.EngineLaw

variable {s t : State} {ch : Chan}

theorem budgetLaw (hs : s.EngineLaw) : s.BudgetLaw :=
  ⟨hs.tokens.low, hs.tokens.high, hs.tokens.within, fun ch => (hs.sound ch).holds, fun ch => (hs.sound ch).waits,
    fun ch => (hs.sound ch).march, hs.tokens.last, hs.tokens.full⟩

theorem onChan_run {f : Channel → Channel} (h : (f s.chan[ch.val]).run = s.chan[ch.val].run) (hs : s.EngineLaw) :
    (s.onChan ch f).EngineLaw := by
  have hc : s.chan[ch.val].Sound ch s.allocator.item s.store s.arbiter.holders[ch.val] s.arbiter.waiting[ch.val] := hs.sound ch
  exact onChan (hc.congr h) hs

theorem drive (cmd : DeviceCommand) (hs : s.EngineLaw) : (s.drive ch cmd).EngineLaw := by
  rw [State.drive_eq]
  exact onChan_run rfl hs

/-- A request is withdrawn (R114). -/
theorem withdraw (hs : s.EngineLaw) : (s.setArbiter (s.arbiter.withdraw ch)).EngineLaw := by
  have less (c : Chan) (h : (s.arbiter.withdraw ch).waiting[c.val] = true) : s.arbiter.waiting[c.val] = true := by
    rw [Arbiter.withdraw_waiting] at h
    split at h
    · cases h
    · exact h
  obtain ⟨low, high, within, last, full⟩ := hs.tokens
  exact ⟨fun c => { hs.sound c with waits := fun h => (hs.sound c).waits (less c h) },
    ⟨low, high, within, last, fun c h => full c (less c h)⟩⟩

/-- What an abort does by the engine's state (Table 5.7). -/
theorem abortByState (ch : Chan) (hs : s.EngineLaw) : (s.abortByState ch).EngineLaw := by
  have hc := hs.sound ch
  unfold State.abortByState
  split
  · exact hs.withdraw.drive _
  · rename_i hst
    have hst : s.chan[ch.val].engine.state = .sweep := hst
    refine (drive _ ?_).releaseToken
    rw [State.onEngine_eq]
    exact onChan { hc with reading := fun _ => hst } hs
  · exact (hs.drive _).releaseToken
  · exact hs.drive _
  · exact hs.drive _
  · exact hs
  · exact hs

/-- After an abort the other channels go on, and the aborted one is at rest (R100, R114, R122, R140, R153). -/
theorem aborts {a : State} (h : s.Aborts a ch) (hs : s.EngineLaw) : a.EngineLaw := by
  have law := hs.abortByState ch
  have hc := hs.sound ch
  obtain ⟨hholds, hwaits⟩ := s.abortEngine_tokens ch hs.budgetLaw
  have harb : a.arbiter = (s.abortByState ch).arbiter := h.arbiter
  have hal : (s.abortByState ch).allocator = s.allocator := (s.abortEngine_rest ch).2.2.2.1
  have hstore : (s.abortByState ch).store = s.store := (s.abortEngine_rest ch).2.2.1
  have hless (c : Chan) : (a.allocator.item.serves c = true → s.allocator.item.serves c = true)
      ∧ (a.allocator.item.analyses c = true → s.allocator.item.analyses c = true) := by
    rw [h.allocator]
    split
    · exact ⟨nofun, nofun⟩
    · exact ⟨id, id⟩
  refine ⟨fun c => ?_, harb ▸ law.tokens⟩
  by_cases e : ch = c
  · subst e
    rw [State.Sound, h.arbiter, h.same]
    refine .at_rest rfl ?_ rfl rfl h.item.1 h.item.2 hholds hwaits
    show Engine.reading { s.chan[ch.val].engine with
      outstanding := if s.chan[ch.val].engine.state = .sweep then
        s.chan[ch.val].engine.outstanding.map fun o => { o with uncompared := true }
        else s.chan[ch.val].engine.outstanding } = false
    split
    · simp only [Engine.reading]
      cases s.chan[ch.val].engine.outstanding <;> rfl
    · rename_i hne
      rw [Bool.eq_false_iff]
      exact fun hr => hne (hc.reading hr)
  · have other := law.sound c
    have hchan : a.chan[c.val] = (s.abortByState ch).chan[c.val] := by
      rw [h.other c e, State.abortEngine, State.onChan_other _ e]
    rw [State.Sound, hal, hstore] at other
    rw [State.Sound, harb, hchan, h.store]
    exact { other with serves := fun h => other.serves ((hless c).1 h), analyses := fun h => other.analyses ((hless c).2 h) }

end State.EngineLaw

/-! ## Resets and loads -/

/-- No channel has work, a token or a READ that will be compared, and no engine runs. -/
def State.AtRest (s : State) : Prop :=
  ∀ ch : Chan, s.chan[ch.val].engine.state.active = false ∧ s.chan[ch.val].engine.reading = false
    ∧ s.chan[ch.val].queue.records = [] ∧ s.chan[ch.val].allocation.request = none ∧ s.allocator.item.serves ch = false
    ∧ s.allocator.item.analyses ch = false ∧ s.arbiter.holders[ch.val] = false ∧ s.arbiter.waiting[ch.val] = false

theorem State.AtRest.held {s : State} (h : s.AtRest) : s.arbiter.held = 0 := by
  obtain ⟨-, -, -, -, -, -, h0, -⟩ := h 0
  obtain ⟨-, -, -, -, -, -, h1, -⟩ := h 1
  obtain ⟨-, -, -, -, -, -, h2, -⟩ := h 2
  obtain ⟨-, -, -, -, -, -, h3, -⟩ := h 3
  rw [Arbiter.held_eq]
  simp_all

theorem State.AtRest.engineLaw {s : State} (h : s.AtRest) (hl : 1 ≤ s.arbiter.budget) (hh : s.arbiter.budget ≤ 4) :
    s.EngineLaw := by
  have held := h.held
  refine ⟨fun c => ?_, ⟨hl, hh, by omega, fun _ => by omega, fun c hw => ?_⟩⟩
  · obtain ⟨hidle, hread, hq, hreq, hserves, han, hholds, hwaits⟩ := h c
    exact .at_rest hidle hread hq hreq hserves han hholds hwaits
  · obtain ⟨-, -, -, -, -, -, -, hn⟩ := h c
    rw [hn] at hw
    cases hw

theorem State.AtRest.of_same {s t : State} (hi : t.allocator = s.allocator) (hh : t.arbiter.holders = s.arbiter.holders)
    (hw : t.arbiter.waiting = s.arbiter.waiting)
    (hc : ∀ c : Chan, t.chan[c.val].engine = s.chan[c.val].engine ∧ t.chan[c.val].queue = s.chan[c.val].queue
      ∧ t.chan[c.val].allocation.request = s.chan[c.val].allocation.request) (hs : s.AtRest) : t.AtRest := by
  intro c
  obtain ⟨he, hq, hr⟩ := hc c
  simp only [hi, hh, hw, he, hq, hr]
  exact hs c

theorem State.EngineLaw.atRest {s : State} (hs : s.EngineLaw) (h : ∀ c : Chan, s.chan[c.val].control.state.running = false) :
    s.AtRest := fun c => hs.rests (by
  rw [Bool.eq_false_iff]
  intro h'
  have := ChannelState.running_of_started h'
  rw [h c] at this
  cases this)

/-- Placing a channel whose run has not begun (Table 9.2). -/
theorem State.EngineLaw.place {s : State} (resumes : Chan → Bool) (ch : Chan)
    (hc : s.chan[ch.val].control.state.running = false) (hs : s.EngineLaw) : (State.place resumes s ch).EngineLaw := by
  have hst : s.chan[ch.val].control.state.started = false := by
    rw [Bool.eq_false_iff]
    intro h
    rw [ChannelState.running_of_started h] at hc
    cases hc
  have serve (outcome : RunOutcome) : (s.enterService ch outcome).EngineLaw := by
    refine State.EngineLaw.onControl (by rw [State.onPath_same]; exact hst) ?_
    rw [State.onPath_eq]
    exact State.EngineLaw.onChan_run rfl hs
  unfold State.place
  split
  · refine State.EngineLaw.onControl ?_ (serve _)
    rw [State.enterService_chan, if_pos rfl]
    rfl
  · split
    · exact serve _
    · split
      · exact (hs.onControl hst).prepareIfReady ch
      · exact hs.onControl hst

theorem budgetOf_range (image : List Byte) : 1 ≤ budgetOf image ∧ budgetOf image ≤ 4 := by
  unfold budgetOf
  omega

/-- A channel's queue takes in records of the channel alone. -/
theorem State.queueAfter_own (s : State) (ch : Chan) (o : OutstandingRead) (word : Word)
    (h : ∀ f ∈ s.chan[ch.val].queue.records, f.channel = ch) : ∀ f ∈ (s.queueAfter ch o word).records, f.channel = ch := by
  unfold State.queueAfter
  dsimp only
  split
  · exact h
  · rw [FailQueue.capture_records]
    rcases FailQueue.place_records s.chan[ch.val].queue
      (failureOf ch s.chan[ch.val].engine.phase o (s.compareReturn ch o word)) with ⟨older, youngest, hr, hp⟩ | hp
    · rw [hr] at h
      rw [hp]
      intro f hf
      rcases List.mem_append.1 hf with hf | hf
      · exact h f (List.mem_append_left _ hf)
      · rw [List.mem_singleton.1 hf]
        exact h youngest (by simp)
    · rw [hp]
      intro f hf
      rcases List.mem_append.1 hf with hf | hf
      · exact h f hf
      · rw [List.mem_singleton.1 hf]; rfl

/-- Every way a step goes keeps the law of the engines. -/
theorem State.Goes.engineLaw {c : Instr} {s t : State} (h : s.Goes c t) (hw : s.WaitsForLoader) (hs : s.EngineLaw) :
    t.EngineLaw := by
  have same {u : State} (h : s.SameWork u) : u.EngineLaw := hs.of_sameWork h
  have rest {u : State} (h : s.SameWork u) (hp : s.loader.phase = .reading) : u.AtRest :=
    (same h).atRest ((hw.congr h).not_running (h.phase.trans hp))
  cases h with
  | same h => exact same h
  | powerOn =>
    have := ((State.runLaw_iff _).1 lawsHoldAtReset.2.2.2.2.2.2).2.2.1
    exact this.of_sameWork (.setPending _ _)
  | warm =>
    refine State.AtRest.engineLaw (fun d => ?_) (show 1 ≤ Arbiter.reset.budget by decide)
      (show Arbiter.reset.budget ≤ 4 by decide)
    obtain ⟨-, ho, hq, -, hr⟩ := s.chan[d.val].warm_lists
    have hidle : s.chan[d.val].warm.engine.state.active = false := by unfold Channel.warm; split <;> rfl
    have hnone : Arbiter.reset.holders[d.val] = false ∧ Arbiter.reset.waiting[d.val] = false := by simp [Arbiter.reset]
    rw [State.warm_chan]
    exact ⟨hidle, by rw [Engine.reading, ho], hq, hr, rfl, rfl, hnone⟩
  | @loadFailed u status h hp =>
    have hf := u.loadFailed_failsLoad status
    refine State.AtRest.engineLaw (State.AtRest.of_same (s := u) hf.allocator (by rw [hf.arbiter]) (by rw [hf.arbiter])
      (fun d => by rw [hf.chan d]; exact ⟨rfl, rfl, rfl⟩) (rest h hp)) ?_ ?_
    · rw [hf.arbiter]; exact (same h).tokens.low
    · rw [hf.arbiter]; exact (same h).tokens.high
  | @loadGood u image order h hp =>
    have hl := u.loaded_loads image
    obtain ⟨low, high⟩ := budgetOf_range image
    rw [State.loadGood_eq]
    refine State.foldl_place_induction _ (fun x ch hc hx => hx.place _ ch hc) (placementOrder order)
      (placementOrder_nodup order) (u.loaded image)
      (fun d _ => hl.not_running ((hw.congr h).not_running (h.phase.trans hp)) d) ?_
    refine State.AtRest.engineLaw (State.AtRest.of_same (s := u) hl.allocator (by rw [hl.arbiter]) (by rw [hl.arbiter])
      (fun d => ?_) (rest h hp)) (by rw [hl.arbiter]; exact low) (by rw [hl.arbiter]; exact high)
    obtain ⟨_, _, e⟩ := hl.chan d
    rw [e]
    exact ⟨rfl, rfl, rfl⟩
  | retest ch _ h hf hst =>
    refine State.EngineLaw.prepareIfReady ch (State.EngineLaw.onControl ?_ (same h))
    rw [h.control]
    rcases hst with e | e <;> rw [e] <;> rfl
  | @abort u ch h =>
    obtain ⟨a, ha, e⟩ := u.takeAbort_eq ch
    rw [e]
    exact ((same h).aborts ha).choose
  | prepare ch h hp => exact ((same h).prepare (by rw [h.control, hp]; rfl)).choose
  | append ch item h =>
    rw [State.appendReturn, State.onPath_eq]
    exact State.EngineLaw.onChan_run rfl (same h)
  | answer ch item rest h => exact State.EngineLaw.onChan_run rfl (same h)
  | @stall u ch h hst hr =>
    have hc := (same h).sound ch
    have hst := (h.state ch).trans hst
    have hr := (h.reading ch).trans hr
    obtain ⟨hreq, han⟩ := hc.no_analysis (by simp [hst])
    rw [State.onEngine_eq]
    exact State.EngineLaw.onChan { hc with
      active := fun _ => hc.active (by rw [hst]; rfl), reading := fun h => absurd h (by rw [Bool.not_eq_true]; exact hr)
      request := fun h => absurd hreq h, analyses := fun h => absurd h (by simp [han])
      holds := fun _ => .inr rfl, waits := fun h => absurd h (by rw [hc.not_waiting (by simp [hst])]; simp)
      march := (nomatch ·) } (same h)
  | @issue u ch o h hst =>
    have hc := (same h).sound ch
    rw [State.onEngine_eq]
    exact State.EngineLaw.onChan { hc with reading := fun _ => (h.state ch).trans hst } (same h)
  | discard ch o h =>
    have hc := (same h).sound ch
    rw [State.onEngine_eq]
    exact (State.EngineLaw.onChan { hc with reading := fun h => absurd h (by simp [Engine.reading]) } (same h)).choose
  | @compare u ch o word h ho hu =>
    have hc := (same h).sound ch
    have hread : u.chan[ch.val].engine.reading = true := by
      rw [h.reading, Engine.reading, ho]
      simp [hu]
    have hst := hc.reading hread
    have hstarted := hc.active (by rw [hst]; rfl)
    obtain ⟨hreq, han⟩ := hc.no_analysis (by simp [hst])
    rw [u.engineReturn_eq ch o word hu]
    refine (State.EngineLaw.operationDone (by rw [State.onChan_same]; exact hst) (by rw [State.onChan_same]; rfl)
      (State.EngineLaw.onChan { hc with
        reading := fun h => absurd h (by simp [Engine.reading]), queued := fun _ => hstarted, own := ?_, request := fun h => absurd hreq h
        analyses := fun h => absurd h (by simp [han]) } (same h))).choose
    exact u.queueAfter_own ch o word hc.own
  | write ch h hst hr => exact ((same h).operationDone ((h.state ch).trans hst) ((h.reading ch).trans hr)).choose
  | @holdEnds u ch i h hst =>
    have hc := (same h).sound ch
    have hst := (h.state ch).trans hst
    obtain ⟨hreq, han⟩ := hc.no_analysis (by simp [hst])
    refine ((same h).takeElementAt i ⟨hc.active (by rw [hst]; rfl), ?_, ?_, by simp [hst], hreq, han⟩).choose
    · rw [Bool.eq_false_iff]
      intro h'
      rw [hc.reading h'] at hst
      cases hst
    · rw [Bool.eq_false_iff]
      intro h'
      have := hc.holds h'
      rw [hst] at this
      simp at this
  | @service u f kind h =>
    refine (State.EngineLaw.drainTest f.channel (State.EngineLaw.idleAllocator ?_)).choose
    have hf := u.serveRecord_frame f kind
    exact (same h).of_run hf.rest.arbiter (by rw [hf.rest.allocator]) hf.rest.store fun d => by
      simp only [Channel.run, hf.control d, hf.engine d, hf.queue d, hf.requests d]
  | @analysis u ch flag h hi =>
    have hc := (same h).sound ch
    have hf := u.analyse_frame ch flag
    obtain ⟨-, hq, hr⟩ := hc.analyses (by rw [h.allocator, hi]; simp [AllocatorItem.analyses])
    refine (State.EngineLaw.analysisReport ?_ ?_ rfl (State.EngineLaw.idleAllocator ?_)).choose
    · show (u.analyse ch flag).chan[ch.val].queue.records = []
      rw [hf.queue]; exact hq
    · show (u.analyse ch flag).chan[ch.val].allocation.request = none
      rw [hf.requests]; exact hr
    · exact (same h).of_run hf.rest.arbiter (by rw [hf.rest.allocator]) hf.rest.store fun d => by
        simp only [Channel.run, hf.control d, hf.engine d, hf.queue d, hf.requests d]

end Sys2Proof.Machine

/-! PROOFS. The laws of entries by the states of their channels (R23, R156, R157), seen also between the end of a load and the
placement of each channel, and the law of a run as a whole (O57). -/

namespace Sys2Proof.Machine

/-! ## Channels held over -/

namespace State.NoneHeldOver

variable {s t : State}

theorem of_same (hl : t.loader.phase = s.loader.phase)
    (hc : ∀ c : Chan, t.chan[c.val].control.candidate = s.chan[c.val].control.candidate) (hs : s.NoneHeldOver) :
    t.NoneHeldOver := fun hf c => (hc c).trans (hs (hl ▸ hf) c)

theorem of_engineFrame (h : s.EngineFrame t) (hs : s.NoneHeldOver) : t.NoneHeldOver :=
  hs.of_same (by rw [h.loader]) h.candidate

theorem choose (hs : s.NoneHeldOver) : s.choose.NoneHeldOver :=
  hs.of_same (by rw [s.choose_loader]) fun c => by rw [s.choose_control]

theorem onChan {ch : Chan} {f : Channel → Channel}
    (h : (f s.chan[ch.val]).control.candidate = s.chan[ch.val].control.candidate) (hs : s.NoneHeldOver) :
    (s.onChan ch f).NoneHeldOver :=
  of_same (s := s) rfl (fun c => by
    rw [State.onChan_chan]
    split
    · rename_i e; subst e; exact h
    · rfl) hs

theorem of_serviceFrame {ch : Chan} (h : s.ServiceFrame t ch) (hs : s.NoneHeldOver) : t.NoneHeldOver :=
  hs.of_same (by rw [h.rest.loader]) fun c => by rw [h.control c]

theorem idleAllocator (hs : s.NoneHeldOver) : s.idleAllocator.NoneHeldOver := hs

theorem prepare (ch : Chan) (hs : s.NoneHeldOver) : (s.prepare ch).NoneHeldOver := by
  obtain ⟨e, he, hp⟩ := s.prepare_eq ch
  rw [hp]
  refine of_engineFrame (e.takeElementAt_frame ch _) (hs.of_same (by rw [he.rest.loader]) fun c => ?_)
  by_cases hc : ch = c
  · subst hc; rw [he.same]; rfl
  · rw [he.other c hc]

theorem prepareIfReady (ch : Chan) (hs : s.NoneHeldOver) : (s.prepareIfReady ch).NoneHeldOver := by
  unfold State.prepareIfReady
  split
  · exact (hs.prepare ch).choose
  · exact hs

end State.NoneHeldOver

theorem State.prepareIfReady_candidate (s : State) (ch c : Chan) :
    (s.prepareIfReady ch).chan[c.val].control.candidate = s.chan[c.val].control.candidate := by
  unfold State.prepareIfReady
  split
  · obtain ⟨e, he, hp⟩ := s.prepare_eq ch
    rw [State.choose_control, hp, (e.takeElementAt_frame ch _).candidate c]
    by_cases hc : ch = c
    · subst hc; rw [he.same]; rfl
    · rw [he.other c hc]
  · rfl

theorem State.place_candidate (resumes : Chan → Bool) (s : State) (ch c : Chan) :
    (State.place resumes s ch).chan[c.val].control.candidate =
      if ch = c ∧ resumes ch = true then false else s.chan[c.val].control.candidate := by
  have control (x : State) (f : Control → Control) (hf : (f x.chan[ch.val].control).candidate = x.chan[ch.val].control.candidate) :
      (x.onControl ch f).chan[c.val].control.candidate = x.chan[c.val].control.candidate := by
    rw [State.onControl_chan]
    split
    · rename_i e; subst e; exact hf
    · rfl
  have serve (outcome : RunOutcome) :
      (s.enterService ch outcome).chan[c.val].control.candidate = s.chan[c.val].control.candidate := by
    rw [State.enterService_chan]
    split <;> rfl
  cases hr : resumes ch with
  | true =>
    simp only [State.place, hr, if_true, and_true]
    rw [State.onControl_chan]
    split
    · rfl
    · exact serve _
  | false =>
    simp only [State.place, hr, Bool.false_eq_true, if_false, and_false]
    split
    · exact serve _
    · split
      · rw [State.prepareIfReady_candidate, control s _ rfl]
      · exact control s _ rfl

/-- Once every channel is placed none is held over. -/
theorem State.foldl_place_candidate (resumes : Chan → Bool) (l : List Chan) (s : State) (c : Chan) :
    (l.foldl (State.place resumes) s).chan[c.val].control.candidate =
      if c ∈ l ∧ resumes c = true then false else s.chan[c.val].control.candidate := by
  induction l generalizing s with
  | nil => simp
  | cons ch l ih =>
    rw [List.foldl_cons, ih, State.place_candidate]
    by_cases e : ch = c
    · subst e
      cases resumes ch <;> simp
    · simp only [e, Ne.symm e, false_and, if_false, List.mem_cons, false_or]

/-- Every way a step goes holds no channel over once the loader is FINISHED. -/
theorem State.Goes.noneHeldOver {c : Instr} {s t : State} (h : s.Goes c t) (hs : s.NoneHeldOver) : t.NoneHeldOver := by
  have same {u : State} (h : s.SameWork u) : u.NoneHeldOver := hs.of_same h.phase fun c => by rw [h.control]
  cases h with
  | same h => exact same h
  | powerOn => exact fun hf => by cases hf
  | warm => exact fun hf => by cases hf
  | @loadFailed u status h =>
    exact fun _ c => by rw [(u.loadFailed_failsLoad status).chan c]; rfl
  | @loadGood u image order h =>
    intro _ c
    have hl := u.loaded_loads image
    rw [State.loadGood_eq, State.foldl_place_candidate]
    split
    · rfl
    · rename_i hr
      obtain ⟨_, _, e⟩ := hl.chan c
      rw [e]
      have hr : (u.applyImage image).resumes image c = false := by simpa [mem_placementOrder] using hr
      rw [hr]
      rfl
  | retest ch _ h => exact State.NoneHeldOver.prepareIfReady ch (State.NoneHeldOver.onChan rfl (same h))
  | @abort u ch h =>
    obtain ⟨a, ha, e⟩ := u.takeAbort_eq ch
    rw [e]
    refine ((same h).of_same (by rw [ha.loader]) fun d => ?_).choose
    by_cases hc : ch = d
    · subst hc; rw [ha.same]
    · obtain ⟨_, _, hd⟩ := ha.other_eq hc; rw [hd]
  | prepare ch h => exact ((same h).prepare ch).choose
  | append ch item h => exact State.NoneHeldOver.onChan rfl (same h)
  | answer ch item rest h => exact State.NoneHeldOver.onChan rfl (same h)
  | stall ch h => exact State.NoneHeldOver.onChan rfl (same h)
  | issue ch o h => exact State.NoneHeldOver.onChan rfl (same h)
  | discard ch o h => exact (State.NoneHeldOver.onChan rfl (same h)).choose
  | @compare u ch o word h ho hu =>
    rw [u.engineReturn_eq ch o word hu]
    exact (State.NoneHeldOver.of_engineFrame (operationDone_frame _ ch) (State.NoneHeldOver.onChan rfl (same h))).choose
  | write ch h => exact (State.NoneHeldOver.of_engineFrame (operationDone_frame _ ch) (same h)).choose
  | holdEnds ch i h => exact (State.NoneHeldOver.of_engineFrame (takeElementAt_frame _ ch i) (same h)).choose
  | @service u f kind h =>
    exact (State.NoneHeldOver.of_engineFrame (drainTest_frame _ f.channel) ((same h).of_serviceFrame
      (u.serveRecord_frame f kind)).idleAllocator).choose
  | @analysis u ch flag h =>
    exact (State.NoneHeldOver.of_engineFrame (analysisReport_frame _ ch) ((same h).of_serviceFrame
      (u.analyse_frame ch flag)).idleAllocator).choose

/-! ## Entries by the states of their channels -/

/-- Every entry fits its channel's state, where the channels of `waits` are still to be placed: a `fresh` one, which is to be
tested, may have TENTATIVE entries, and a `held` one ACTIVE ones (R156, R165, R166). -/
structure State.EntriesFit (s : State) (waits fresh held : Chan → Bool) : Prop where
  idle : ∀ c : Chan, waits c = true → s.chan[c.val].control.state.running = false
  candidate : ∀ c : Chan, waits c = true → fresh c = true → s.chan[c.val].control.candidate = false
  tentative : ∀ (i : Fin 64) (r : Repair), s.table[i.val] = .tentative r →
    s.chan[r.channel.val].control.candidate = false
      ∧ if waits r.channel then fresh r.channel = true
        else s.chan[r.channel.val].control.state ≠ .service ∧ s.chan[r.channel.val].control.state ≠ .disabled
  active : ∀ (i : Fin 64) (r : Repair), s.table[i.val] = .active r →
    if waits r.channel then held r.channel = true else s.chan[r.channel.val].control.state ≠ .disabled

/-- With every channel placed this is the law of entries and states. -/
theorem State.entryStateLaw_iff (s : State) (fresh held : Chan → Bool) :
    s.EntryStateLaw ↔ s.EntriesFit (fun _ => false) fresh held := by
  constructor
  · intro h
    refine ⟨fun _ => nofun, fun _ => nofun, fun i r he => ?_, fun i r he => ?_⟩
    · have := h i
      simp only [Fin.getElem_fin, he] at this
      obtain ⟨h1, h2, h3⟩ := this
      exact ⟨h3, by simpa using ⟨h1, h2⟩⟩
    · have := h i
      simp only [Fin.getElem_fin, he] at this
      simpa using this
  · intro h i
    cases he : s.table[i.val] with
    | tentative r =>
      obtain ⟨h1, h2⟩ := h.tentative i r he
      simp only [Bool.false_eq_true, if_false] at h2
      exact ⟨h2.1, h2.2, h1⟩
    | active r =>
      have := h.active i r he
      simp only [Bool.false_eq_true, if_false] at this
      exact this
    | free => trivial
    | lent p => trivial

namespace State.EntriesFit

variable {s t : State} {waits waits' fresh held : Chan → Bool} {ch : Chan}

/-- A change of one channel's control and entries, after which it is placed. -/
theorem of_others (hw : ∀ c : Chan, ch ≠ c → waits' c = waits c) (hch : waits' ch = false)
    (hc : ∀ c : Chan, ch ≠ c → t.chan[c.val].control = s.chan[c.val].control)
    (ht : ∀ (i : Fin 64) (r : Repair), t.table[i.val].repair? = some r → ch ≠ r.channel → t.table[i.val] = s.table[i.val])
    (htent : ∀ (i : Fin 64) (r : Repair), t.table[i.val] = .tentative r → ch = r.channel →
      t.chan[ch.val].control.candidate = false ∧ t.chan[ch.val].control.state ≠ .service
        ∧ t.chan[ch.val].control.state ≠ .disabled)
    (hact : ∀ (i : Fin 64) (r : Repair), t.table[i.val] = .active r → ch = r.channel →
      t.chan[ch.val].control.state ≠ .disabled)
    (hs : s.EntriesFit waits fresh held) : t.EntriesFit waits' fresh held := by
  have other {c : Chan} (h : waits' c = true) : ch ≠ c := by
    rintro rfl
    rw [hch] at h
    cases h
  refine ⟨fun c h => ?_, fun c h hf => ?_, fun i r he => ?_, fun i r he => ?_⟩
  · rw [hc c (other h)]; exact hs.idle c (hw c (other h) ▸ h)
  · rw [hc c (other h)]; exact hs.candidate c (hw c (other h) ▸ h) hf
  · by_cases e : ch = r.channel
    · obtain ⟨h1, h2⟩ := htent i r he e
      subst e
      rw [hch]
      exact ⟨h1, by simpa using h2⟩
    · rw [hw _ e, hc _ e]
      exact hs.tentative i r ((ht i r (by rw [he]; rfl) e).symm.trans he)
  · by_cases e : ch = r.channel
    · have := hact i r he e
      subst e
      rw [hch]
      simpa using this
    · rw [hw _ e, hc _ e]
      exact hs.active i r ((ht i r (by rw [he]; rfl) e).symm.trans he)

theorem of_same (hc : ∀ c : Chan, t.chan[c.val].control = s.chan[c.val].control)
    (ht : ∀ i : Fin 64, t.table[i.val] = s.table[i.val]) (hs : s.EntriesFit waits fresh held) :
    t.EntriesFit waits fresh held := by
  constructor
  · intro c; rw [hc]; exact hs.idle c
  · intro c; rw [hc]; exact hs.candidate c
  · intro i r; rw [ht, hc]; exact hs.tentative i r
  · intro i r; rw [ht, hc]; exact hs.active i r

theorem onChan {f : Channel → Channel} (h : (f s.chan[ch.val]).control = s.chan[ch.val].control)
    (hs : s.EntriesFit waits fresh held) : (s.onChan ch f).EntriesFit waits fresh held :=
  of_same (s := s) (fun c => by
    rw [State.onChan_chan]
    split
    · rename_i e; subst e; exact h
    · rfl) (fun _ => rfl) hs

theorem choose (hs : s.EntriesFit waits fresh held) : s.choose.EntriesFit waits fresh held :=
  hs.of_same (fun c => s.choose_control c) fun i => by rw [s.choose_table]

theorem idleAllocator (hs : s.EntriesFit waits fresh held) : s.idleAllocator.EntriesFit waits fresh held :=
  of_same (s := s) (t := s.idleAllocator) (fun _ => rfl) (fun _ => rfl) hs

/-- An engine that goes on commits entries only as its channel enters SERVICE. -/
theorem of_engineFrame (h : s.EngineFrame t) (hs : s.EntriesFit waits fresh held) : t.EntriesFit waits fresh held := by
  have idle {c : Chan} (hc : waits c = true) : s.chan[c.val].control.state.started ≠ true := by
    intro hst
    have := hs.idle c hc
    rw [ChannelState.running_of_started hst] at this
    cases this
  have waiting {c : Chan} (hc : waits c = true) : t.chan[c.val].control = s.chan[c.val].control :=
    (h.control c).resolve_right fun hx => idle hc hx.1
  have ne {c : Chan} (hd : s.chan[c.val].control.state ≠ .disabled) : t.chan[c.val].control.state ≠ .disabled := by
    rcases h.control c with e | ⟨-, e | e | e⟩
    · rw [e]; exact hd
    · intro hx; rw [hx] at e; cases e
    · rw [e]; decide
    · rw [e]; decide
  refine ⟨fun c hc => by rw [waiting hc]; exact hs.idle c hc, fun c hc hf => ?_, fun i r he => ?_, fun i r he => ?_⟩
  · rw [h.candidate]; exact hs.candidate c hc hf
  · obtain ⟨h1, h2⟩ := hs.tentative i r (h.tentative_of he)
    refine ⟨by rw [h.candidate]; exact h1, ?_⟩
    cases hw : waits r.channel with
    | true => simpa [hw] using h2
    | false =>
      simp only [hw, Bool.false_eq_true, if_false] at h2 ⊢
      exact ⟨fun hx => h2.1 (h.tentative i r he hx), ne h2.2⟩
  · rcases h.entry i with e | ⟨p, -, e⟩ | ⟨q, hq, e, hst⟩
    · have := hs.active i r (e.symm.trans he)
      cases hw : waits r.channel with
      | true => simpa [hw] using this
      | false =>
        simp only [hw, Bool.false_eq_true, if_false] at this ⊢
        exact ne this
    · rw [e] at he; cases he
    · obtain rfl := Entry.active.inj (e.symm.trans he)
      cases hw : waits q.channel with
      | true => exact absurd hst (idle hw)
      | false =>
        simp only [Bool.false_eq_true, if_false]
        exact ne (fun hx => by rw [hx] at hst; cases hst)

/-- A placed channel that is not held over may be put into any state but DISABLED and SERVICE. -/
theorem onControl {f : Control → Control} (hw : ∀ c : Chan, ch ≠ c → waits' c = waits c) (hch : waits' ch = false)
    (hc : (f s.chan[ch.val].control).candidate = false)
    (hst : (f s.chan[ch.val].control).state ≠ .service ∧ (f s.chan[ch.val].control).state ≠ .disabled)
    (hs : s.EntriesFit waits fresh held) : (s.onControl ch f).EntriesFit waits' fresh held :=
  of_others (s := s) hw hch (fun c h => by rw [State.onControl_other _ h]) (fun _ _ _ _ => rfl)
    (fun _ _ _ _ => by rw [State.onControl_same]; exact ⟨hc, hst⟩)
    (fun _ _ _ _ => by rw [State.onControl_same]; exact hst.2) hs

/-- PREPARING's steps of a placed channel that is not held over. -/
theorem prepare (hch : waits ch = false) (hc : s.chan[ch.val].control.candidate = false)
    (hs : s.EntriesFit waits fresh held) : (s.prepare ch).EntriesFit waits fresh held := by
  obtain ⟨e, he, hp⟩ := s.prepare_eq ch
  have hsame := he.same
  rw [hp]
  refine of_engineFrame (e.takeElementAt_frame ch _) (of_others (s := s) (fun _ _ => rfl) hch
    (fun c h => by rw [he.other c h]) (fun i r hr hne => ?_) (fun _ _ _ _ => by rw [hsame]; exact ⟨hc, nofun, nofun⟩)
    (fun _ _ _ _ => by rw [hsame]; exact nofun) hs)
  rcases he.entry i with ⟨ht, -⟩ | ⟨p, -, -, -, ht⟩
  · rw [ht] at hr ⊢
    unfold Entry.reopen at hr ⊢
    cases hx : s.table[i.val].repair? with
    | none => simp only
    | some q =>
      simp only [hx] at hr ⊢
      split at hr
      · rename_i hq
        simp only [Entry.repair?, Option.some.injEq] at hr
        subst hr
        exact absurd hq.symm hne
      · rename_i hq
        rw [if_neg hq]
  · rw [ht] at hr; cases hr

theorem prepareIfReady (hch : waits ch = false) (hc : s.chan[ch.val].control.candidate = false)
    (hs : s.EntriesFit waits fresh held) : (s.prepareIfReady ch).EntriesFit waits fresh held := by
  unfold State.prepareIfReady
  split
  · exact (hs.prepare hch hc).choose
  · exact hs

/-- A service creates entries of a started channel alone. -/
theorem serves (hst : s.chan[ch.val].control.state.started = true) (hch : waits ch = false)
    (hc : s.chan[ch.val].control.candidate = false) (hf : s.ServiceFrame t ch) (he : s.ServedEntries t ch)
    (hs : s.EntriesFit waits fresh held) : t.EntriesFit waits fresh held := by
  refine of_others (s := s) (fun _ _ => rfl) hch (fun c _ => hf.control c) (fun i r hr hne => ?_) (fun i r h e => ?_)
    (fun i r h e => ?_) hs
  · rcases he i with e | ⟨-, e | ⟨q, e, hq⟩⟩
    · exact e
    · rw [e] at hr; cases hr
    · rw [e] at hr
      simp only [Entry.repair?, Option.some.injEq] at hr
      subst hr
      exact absurd hq.symm hne
  · rw [hf.control]
    refine ⟨hc, ?_, ?_⟩ <;> intro hx <;> rw [hx] at hst <;> cases hst
  · rw [hf.control]
    intro hx; rw [hx] at hst; cases hst

end State.EntriesFit

end Sys2Proof.Machine

namespace Sys2Proof.Machine

/-! ## The placement of the channels -/

theorem State.prepareIfReady_setup (s : State) (ch c : Chan) : (s.prepareIfReady ch).chan[c.val].setup = s.chan[c.val].setup := by
  unfold State.prepareIfReady
  split
  · obtain ⟨e, he, hp⟩ := s.prepare_eq ch
    rw [State.choose_setup, hp, (e.takeElementAt_frame ch _).setup c]
    by_cases hc : ch = c
    · subst hc; rw [he.same]; rfl
    · rw [he.other c hc]
  · rfl

theorem State.place_setup (resumes : Chan → Bool) (s : State) (ch c : Chan) :
    (State.place resumes s ch).chan[c.val].setup = s.chan[c.val].setup := by
  have control (x : State) (f : Control → Control) : (x.onControl ch f).chan[c.val].setup = x.chan[c.val].setup := by
    rw [State.onControl_chan]
    split
    · rename_i e; subst e; rfl
    · rfl
  have serve (outcome : RunOutcome) : (s.enterService ch outcome).chan[c.val].setup = s.chan[c.val].setup := by
    rw [State.enterService_chan]
    split <;> rfl
  unfold State.place
  split
  · rw [control, serve]
  · split
    · exact serve _
    · split
      · rw [State.prepareIfReady_setup, control]
      · exact control _ _

namespace State.EntriesFit

variable {s : State} {waits waits' fresh resumes : Chan → Bool}

/-- Placing a channel that waits for it (Table 9.2). -/
theorem place (ch : Chan) (hch : waits ch = true) (hch' : waits' ch = false) (hw : ∀ c : Chan, ch ≠ c → waits' c = waits c)
    (hf : fresh ch = true ↔ resumes ch = false ∧ s.chan[ch.val].toBeTested = true) (hs : s.EntriesFit waits fresh resumes) :
    (State.place resumes s ch).EntriesFit waits' fresh resumes := by
  have tentative {i : Fin 64} {r : Repair} (h : s.table[i.val] = .tentative r) (e : ch = r.channel) : fresh ch = true := by
    have := (hs.tentative i r h).2
    subst e
    simpa [hch] using this
  have active {i : Fin 64} {r : Repair} (h : s.table[i.val] = .active r) (e : ch = r.channel) : resumes ch = true := by
    have := hs.active i r h
    subst e
    simpa [hch] using this
  unfold State.place
  split
  · rename_i hr
    refine of_others (s := s) hw hch' (fun c h => ?_) (fun _ _ _ _ => rfl) (fun i r h e => ?_) (fun i r h e => ?_) hs
    · rw [State.onControl_other _ h, State.enterService_chan, if_neg h]
    · have := (hf.1 (tentative h e)).1
      rw [hr] at this
      cases this
    · rw [State.onControl_same, State.enterService_chan, if_pos rfl]
      exact nofun
  · rename_i hr
    rw [Bool.not_eq_true] at hr
    split
    · rename_i hu
      refine of_others (s := s) hw hch' (fun c h => ?_) (fun _ _ _ _ => rfl) (fun i r h e => ?_) (fun i r h e => ?_) hs
      · rw [State.enterService_chan, if_neg h]
      · have := (hf.1 (tentative h e)).2
        simp only [Channel.untested, Channel.toBeTested, Bool.and_eq_true, bne_iff_ne, beq_iff_eq, Fin.getElem_fin] at hu this
        exact absurd this.2 hu
      · rw [State.enterService_chan, if_pos rfl]
        exact nofun
    · rename_i hu
      simp only [Channel.untested, bne_iff_ne, ne_eq, Decidable.not_not, Fin.getElem_fin] at hu
      split
      · rename_i he
        have hcand := hs.candidate ch hch (hf.2 ⟨hr, by simp only [Channel.toBeTested, hu, Bool.and_eq_true]; exact ⟨he, rfl⟩⟩)
        exact prepareIfReady hch' (by rw [State.onControl_same]; exact hcand)
          (onControl hw hch' hcand ⟨nofun, nofun⟩ hs)
      · rename_i he
        refine of_others (s := s) hw hch' (fun c h => by rw [State.onControl_other _ h]) (fun _ _ _ _ => rfl)
          (fun i r h e => ?_) (fun i r h e => ?_) hs
        · have := (hf.1 (tentative h e)).2
          simp only [Channel.toBeTested, Bool.and_eq_true] at this
          exact absurd this.1 he
        · have := active h e
          rw [hr] at this
          cases this

theorem foldl_place (l : List Chan) (hl : l.Nodup) (s : State)
    (hf : ∀ c : Chan, fresh c = true ↔ resumes c = false ∧ s.chan[c.val].toBeTested = true)
    (hs : s.EntriesFit (fun c => decide (c ∈ l)) fresh resumes) :
    (l.foldl (State.place resumes) s).EntriesFit (fun _ => false) fresh resumes := by
  induction l generalizing s with
  | nil => simpa using hs
  | cons ch l ih =>
    obtain ⟨hch, hl⟩ := List.nodup_cons.1 hl
    refine ih hl _ (fun c => ?_) (hs.place ch (by simp) (by simpa using hch) (fun c h => ?_) (hf ch))
    · rw [hf c]
      simp only [Channel.toBeTested, State.place_setup]
    · simp [Ne.symm h]

/-- A load before the first placement: a resuming channel has ACTIVE entries, one to be tested TENTATIVE ones (R165, R166). -/
theorem loads {t : State} {image : List Byte} (h : s.Loads image resumes t)
    (hr : ∀ c : Chan, resumes c = true → s.chan[c.val].control.candidate = true)
    (hn : ∀ c : Chan, t.chan[c.val].control.state.running = false) (hs : s.EntryStateLaw) :
    t.EntriesFit (fun _ => true) (fun c => !resumes c && t.chan[c.val].toBeTested) resumes := by
  have hs := (s.entryStateLaw_iff (fun _ => false) fun _ => false).1 hs
  have reset {c : Chan} (hc : resumes c = false) : t.chan[c.val].control.candidate = false := by
    obtain ⟨_, _, e⟩ := h.chan c
    rw [e, hc]
    rfl
  have old {i : Fin 64} {r : Repair} (hx : (s.table[i.val].without fun c => !resumes c).repair? = some r) :
      s.table[i.val].without (fun c => !resumes c) = s.table[i.val] ∧ resumes r.channel = true := by
    rcases s.table[i.val].without_cases (fun c => !resumes c) with ⟨e, hp⟩ | ⟨e, -⟩
    · rw [e] at hx
      exact ⟨e, by simpa using hp r hx⟩
    · rw [e] at hx; cases hx
  refine ⟨fun c _ => hn c, fun c _ hf => ?_, fun i r he => ?_, fun i r he => ?_⟩
  · simp only [Bool.and_eq_true, Bool.not_eq_true'] at hf
    exact reset hf.1
  · rcases h.entry i with ⟨e, -⟩ | ⟨-, q, e, hq, ht, -⟩
    · have hx := e.symm.trans he
      obtain ⟨hsame, hres⟩ := old (by rw [hx]; rfl)
      have := (hs.tentative i r (hsame.symm.trans hx)).1
      rw [hr _ hres] at this
      cases this
    · obtain rfl := Entry.tentative.inj (e.symm.trans he)
      exact ⟨reset hq, by simp [hq, ht]⟩
  · rcases h.entry i with ⟨e, -⟩ | ⟨-, q, e, -⟩
    · have hx := e.symm.trans he
      simpa using (old (by rw [hx]; rfl)).2
    · rw [e] at he; cases he

/-- After an abort the channel is FAILED, and its entries are TENTATIVE or ACTIVE ones that it had (R16, R153). -/
theorem aborts {a : State} {ch : Chan} (h : s.Aborts a ch) (hc : s.chan[ch.val].control.candidate = false)
    (hs : s.EntriesFit (fun _ => false) fresh resumes) : a.EntriesFit (fun _ => false) fresh resumes := by
  have hsame := h.same
  refine of_others (s := s) (fun _ _ => rfl) rfl (fun c hne => ?_) (fun i r hr hne => ?_)
    (fun _ _ _ _ => by rw [hsame]; exact ⟨hc, nofun, nofun⟩) (fun _ _ _ _ => by rw [hsame]; exact nofun) hs
  · obtain ⟨_, _, e⟩ := h.other_eq hne; rw [e]
  · have ht := h.table i
    have moved {q : Repair} {y : Entry} (hy : y.repair? = some q) (hq : q.channel = ch)
        (hr : (if s.chan[ch.val].control.state = .preparing then Entry.tentative { q with origin := .carried }
          else if q.origin = .found then .free else y).repair? = some r) : ch = r.channel := by
      split_ifs at hr
      · rw [← Option.some.inj hr]; exact hq.symm
      · cases hr
      · rw [← Option.some.inj (hy.symm.trans hr)]; exact hq.symm
    cases hx : s.table[i.val] with
    | free => simpa only [hx] using ht
    | lent p =>
      simp only [hx] at ht
      rw [ht] at hr
      split at hr <;> cases hr
    | tentative q =>
      simp only [hx] at ht
      by_cases hq : q.channel = ch
      · rw [ht, if_neg (not_not.2 hq)] at hr
        exact absurd (moved rfl hq hr) hne
      · rw [ht, if_pos hq]
    | active q =>
      simp only [hx] at ht
      by_cases hq : q.channel = ch
      · rw [ht, if_neg (not_not.2 hq)] at hr
        exact absurd (moved rfl hq hr) hne
      · rw [ht, if_pos hq]

end State.EntriesFit

end Sys2Proof.Machine

namespace Sys2Proof.Machine

/-! ## The law of a run -/

theorem State.warm_entry (s : State) (i : Fin 64) : s.warm.table[i.val] = s.warmEntry s.table[i.val] := by
  simp [State.warm]

/-- Warm restart keeps the ACTIVE entries of the channels it holds over, and no TENTATIVE one (R23, R146). -/
theorem State.EntriesFit.warm {s : State} {fresh held : Chan → Bool} (hs : s.EntriesFit (fun _ => false) fresh held) :
    s.warm.EntriesFit (fun _ => false) fresh held := by
  have kept {i : Fin 64} {r : Repair} (h : s.warm.table[i.val].repair? = some r) :
      s.warm.table[i.val] = s.table[i.val] ∧ s.chan[r.channel.val].isCandidate = true := by
    rw [State.warm_entry, State.warmEntry] at h ⊢
    cases hx : s.table[i.val].repair? with
    | none => simp only [hx] at h; cases h
    | some q =>
      simp only [hx] at h ⊢
      split at h
      · rename_i hc
        rw [if_pos hc]
        obtain rfl := Option.some.inj (hx.symm.trans h)
        exact ⟨rfl, hc⟩
      · cases h
  refine ⟨fun _ => nofun, fun _ => nofun, fun i r he => ?_, fun i r he => ?_⟩
  · obtain ⟨e, hc⟩ := kept (i := i) (r := r) (by rw [he]; rfl)
    have hserve := (hs.tentative i r (e.symm.trans he)).2
    simp only [Channel.isCandidate, Bool.and_eq_true, beq_iff_eq] at hc
    simp only [Bool.false_eq_true, if_false] at hserve
    exact absurd hc.1 hserve.1
  · obtain ⟨-, hc⟩ := kept (i := i) (r := r) (by rw [he]; rfl)
    simp only [Bool.false_eq_true, if_false]
    rw [State.warm_chan, Channel.warm, if_pos hc]
    exact nofun

/-- Every way a step goes keeps the law of entries and states. -/
theorem State.Goes.entryStateLaw {c : Instr} {s t : State} (h : s.Goes c t) (hw : s.WaitsForLoader) (hn : s.NoneHeldOver)
    (he : s.EngineLaw) (hs : s.EntryStateLaw) : t.EntryStateLaw := by
  have same {u : State} (h : s.SameWork u) : u.EntriesFit (fun _ => false) (fun _ => false) fun _ => false :=
    (u.entryStateLaw_iff _ _).1 (hs.congr h)
  have placed {u : State} (h : s.SameWork u) {ch : Chan} (hr : s.chan[ch.val].control.state.running = true) :
      u.chan[ch.val].control.candidate = false := by
    rw [h.control]
    exact hn (hw.finished hr) ch
  rw [State.entryStateLaw_iff t (fun _ => false) fun _ => false]
  cases h with
  | same h => exact same h
  | powerOn =>
    have free (i : Fin 64) : (State.reset.setPending s.pending).table[i.val] = .free := by
      rw [State.setPending_table, State.reset_table]
    refine ⟨fun _ => nofun, fun _ => nofun, fun i r hx => ?_, fun i r hx => ?_⟩ <;> rw [free] at hx <;> cases hx
  | warm => exact (same (.refl s)).warm
  | @loadFailed u status h =>
    have hf := u.loadFailed_failsLoad status
    have free {i : Fin 64} {r : Repair} : (u.loadFailed status).table[i.val].repair? ≠ some r := by
      rw [hf.entry i]
      rcases u.table[i.val].without_cases (fun _ => true) with ⟨e, hp⟩ | ⟨e, -⟩
      · intro hx
        rw [e] at hx
        cases hp r hx
      · rw [e]; nofun
    exact ⟨fun _ => nofun, fun _ => nofun, fun i r hx => absurd (by rw [hx]; rfl) (free (i := i) (r := r)),
      fun i r hx => absurd (by rw [hx]; rfl) (free (i := i) (r := r))⟩
  | @loadGood u image order h hp =>
    have hl := u.loaded_loads image
    have hall : (fun c => decide (c ∈ placementOrder order)) = fun _ => true := by
      funext c
      simp [mem_placementOrder]
    have hrun := hl.not_running ((hw.congr h).not_running (h.phase.trans hp))
    have hload := State.EntriesFit.loads hl (fun d hd => by
      simp only [State.resumes, Bool.and_eq_true, Fin.getElem_fin, State.applyImage_chan] at hd
      exact hd.1.1.1) hrun (hs.congr h)
    rw [State.loadGood_eq]
    have hplaced := State.EntriesFit.foldl_place _ (placementOrder_nodup order) (u.loaded image) (fun d => by simp)
      (hall ▸ hload)
    exact (State.entryStateLaw_iff _ _ _).1 ((State.entryStateLaw_iff _ _ _).2 hplaced)
  | retest ch _ h hf =>
    have hc : s.chan[ch.val].control.candidate = false := hn hf ch
    refine State.EntriesFit.prepareIfReady rfl (by rw [State.onControl_same, h.control]; exact hc)
      (State.EntriesFit.onControl (fun _ _ => rfl) rfl (by rw [h.control]; exact hc) ⟨nofun, nofun⟩ (same h))
  | @abort u ch h hr =>
    obtain ⟨a, ha, e⟩ := u.takeAbort_eq ch
    rw [e]
    exact ((same h).aborts ha (placed h hr)).choose
  | prepare ch h hp => exact ((same h).prepare rfl (placed h (by rw [hp]; rfl))).choose
  | append ch item h =>
    rw [State.appendReturn, State.onPath_eq]
    exact State.EntriesFit.onChan rfl (same h)
  | answer ch item rest h => exact State.EntriesFit.onChan rfl (same h)
  | stall ch h => exact State.EntriesFit.onChan rfl (same h)
  | issue ch o h => exact State.EntriesFit.onChan rfl (same h)
  | discard ch o h => exact (State.EntriesFit.onChan rfl (same h)).choose
  | @compare u ch o word h ho hu =>
    rw [u.engineReturn_eq ch o word hu]
    exact (State.EntriesFit.of_engineFrame (operationDone_frame _ ch) (State.EntriesFit.onChan rfl (same h))).choose
  | write ch h => exact (State.EntriesFit.of_engineFrame (operationDone_frame _ ch) (same h)).choose
  | holdEnds ch i h => exact (State.EntriesFit.of_engineFrame (takeElementAt_frame _ ch i) (same h)).choose
  | @service u f kind h hi =>
    have hst : s.chan[f.channel.val].control.state.started = true :=
      (he.sound f.channel).serves (by rw [hi]; simp [AllocatorItem.serves])
    have := (same h).serves (by rw [h.control]; exact hst) rfl (placed h (ChannelState.running_of_started hst))
      (u.serveRecord_frame f kind) (u.serveRecord_servedEntries f kind)
    exact (State.EntriesFit.of_engineFrame (drainTest_frame _ f.channel) this.idleAllocator).choose
  | @analysis u ch flag h hi =>
    have hd := (he.sound ch).analyses (by rw [hi]; simp [AllocatorItem.analyses])
    have hst := (he.sound ch).active (by rw [hd.1]; rfl)
    have := (same h).serves (by rw [h.control]; exact hst) rfl (placed h (ChannelState.running_of_started hst))
      (u.analyse_frame ch flag) (u.analyse_servedEntries ch flag)
    exact (State.EntriesFit.of_engineFrame (analysisReport_frame _ ch) this.idleAllocator).choose

/-- Settles O57. -/
theorem stepKeepsRunLaw : Obligations.StepKeepsRunLaw := by
  refine State.step_keeps State.RunLaw.congr fun {_ s t} h hs => ?_
  obtain ⟨hw, hn, he, hent⟩ := s.runLaw_iff.1 hs
  exact t.runLaw_iff.2 ⟨h.waitsForLoader hw, h.noneHeldOver hn, h.engineLaw hw he, h.entryStateLaw hw hn he hent⟩

end Sys2Proof.Machine

/-! PROOFS. The machine as a whole (R6, R145): what keeps a channel in SERVICE (O59), and what keeps its entries there (O60). -/

namespace Sys2Proof.Machine

/-! ## Staying in SERVICE -/

theorem State.ready_iff (s : State) (ch : Chan) : s.ready ch = true ↔ s.chan[ch.val].control.state = .service := by
  simp [State.ready, Channel.serving]

/-- An engine that goes on leaves a channel that serves. -/
theorem State.EngineFrame.service {s t : State} (h : s.EngineFrame t) {ch : Chan}
    (hs : s.chan[ch.val].control.state = .service) : t.chan[ch.val].control = s.chan[ch.val].control :=
  (h.control ch).resolve_right fun hx => by rw [hs] at hx; cases hx.1

/-- PREPARING's steps of another channel leave a channel that serves. -/
theorem State.prepare_service (s : State) {ch c : Chan} (hne : c ≠ ch) (hs : s.chan[ch.val].control.state = .service) :
    (s.prepare c).chan[ch.val].control = s.chan[ch.val].control := by
  obtain ⟨e, he, hp⟩ := s.prepare_eq c
  have hother := he.other ch hne
  rw [hp, (e.takeElementAt_frame c _).service (by rw [hother]; exact hs), hother]

theorem State.prepareIfReady_service (s : State) {ch c : Chan} (hne : c ≠ ch)
    (hs : s.chan[ch.val].control.state = .service) : (s.prepareIfReady c).chan[ch.val].control = s.chan[ch.val].control := by
  unfold State.prepareIfReady
  split
  · rw [State.choose_control, s.prepare_service hne hs]
  · rfl

theorem State.onChan_control (s : State) (d ch : Chan) {f : Channel → Channel}
    (h : (f s.chan[d.val]).control = s.chan[d.val].control) :
    (s.onChan d f).chan[ch.val].control = s.chan[ch.val].control := by
  rw [State.onChan_chan]
  split
  · rename_i e; subst e; exact h
  · rfl

/-- Every way a step goes but a reset, a load or the channel's RETEST leaves it in SERVICE. -/
theorem State.Goes.keepsService {c : Instr} {s t : State} {ch : Chan} (h : s.Goes c t) (hf : s.loader.phase = .finished)
    (hs : s.chan[ch.val].control.state = .service) (hc : endsService ch c = false) :
    t.chan[ch.val].control.state = .service := by
  have same {u : State} (h : s.SameWork u) : u.chan[ch.val].control.state = .service := by rw [h.control]; exact hs
  have frame {u v : State} (h : u.EngineFrame v) (hu : u.chan[ch.val].control.state = .service) :
      v.chan[ch.val].control.state = .service := by rw [h.service hu]; exact hu
  have choose {u : State} (hu : u.chan[ch.val].control.state = .service) :
      u.choose.chan[ch.val].control.state = .service := by rw [u.choose_control]; exact hu
  have other {d : Chan} {x : ChannelState} (hd : s.chan[d.val].control.state = x) (hx : x ≠ .service) : d ≠ ch := by
    rintro rfl
    exact hx (hd.symm.trans hs)
  cases h with
  | same h => exact same h
  | powerOn he => subst he; cases hc
  | warm he => subst he; cases hc
  | loadFailed _ _ hp => rw [hf] at hp; cases hp
  | loadGood _ _ _ hp => rw [hf] at hp; cases hp
  | @retest u d he h =>
    have hne : d ≠ ch := by
      rintro rfl
      rw [hc] at he
      cases he
    have hu : (u.onControl d fun k => { k with state := .preparing, outcome := .none }).chan[ch.val].control.state = .service := by
      rw [State.onControl_other _ hne]
      exact same h
    rw [State.prepareIfReady_service _ hne hu]
    exact hu
  | @abort u d h hr =>
    obtain ⟨a, ha, e⟩ := u.takeAbort_eq d
    have hne : d ≠ ch := by
      rintro rfl
      rw [hs] at hr
      cases hr
    obtain ⟨_, _, ho⟩ := ha.other_eq hne
    rw [e]
    exact choose (by rw [ho]; exact same h)
  | @prepare u d h hp =>
    refine choose ?_
    rw [State.prepare_service u (other hp nofun) (same h)]
    exact same h
  | @append u d item h => rw [State.appendReturn, State.onPath_eq, u.onChan_control d ch]; exacts [same h, rfl]
  | @answer u d item rest h => rw [State.onPath_eq, u.onChan_control d ch]; exacts [same h, rfl]
  | @stall u d h => rw [State.onEngine_eq, u.onChan_control d ch]; exacts [same h, rfl]
  | @issue u d o h => rw [State.onEngine_eq, u.onChan_control d ch]; exacts [same h, rfl]
  | @discard u d o h =>
    refine choose ?_
    rw [State.onEngine_eq, u.onChan_control d ch]; exacts [same h, rfl]
  | @compare u d o word h ho hu =>
    rw [u.engineReturn_eq d o word hu]
    refine choose (frame (operationDone_frame _ d) ?_)
    rw [u.onChan_control d ch]; exacts [same h, rfl]
  | write d h => exact choose (frame (operationDone_frame _ d) (same h))
  | holdEnds d i h => exact choose (frame (takeElementAt_frame _ d i) (same h))
  | @service u f kind h =>
    exact choose (frame (drainTest_frame _ f.channel) (by
      show (u.serveRecord f kind).chan[ch.val].control.state = .service
      rw [(u.serveRecord_frame f kind).control]; exact same h))
  | @analysis u d flag h =>
    exact choose (frame (analysisReport_frame _ d) (by
      show (u.analyse d flag).chan[ch.val].control.state = .service
      rw [(u.analyse_frame d flag).control]; exact same h))

/-- Settles O59. -/
theorem onlyResetOrRetestEndsService : Obligations.OnlyResetOrRetestEndsService := by
  intro c ch s t hf hr hc ht
  rw [State.ready_iff] at hr ⊢
  exact (State.exec_goes ht).keepsService hf hr hc

end Sys2Proof.Machine

namespace Sys2Proof.Machine

/-! ## Entries in SERVICE -/

/-- An entry of the channel neither comes, goes nor changes. -/
def Entry.KeptFor (ch : Chan) (e e' : Entry) : Prop := (e.belongsTo ch = true ∨ e'.belongsTo ch = true) → e' = e

theorem Entry.KeptFor.trans {ch : Chan} {e e' e'' : Entry} (h : e.KeptFor ch e') (h' : e'.KeptFor ch e'') :
    e.KeptFor ch e'' := by
  intro hb
  rcases hb with hb | hb
  · have e1 := h (.inl hb)
    rw [h' (.inl (by rw [e1]; exact hb)), e1]
  · have e1 := h' (.inr hb)
    rw [e1, h (.inr (by rw [← e1]; exact hb))]

theorem Entry.KeptFor.of_neither {ch : Chan} {e e' : Entry} (h : e.belongsTo ch = false) (h' : e'.belongsTo ch = false) :
    e.KeptFor ch e' := by
  intro hb
  rw [h, h'] at hb
  simp at hb

/-- An entry of one channel is none of another's. -/
theorem Entry.belongsTo_other {ch d : Chan} {e : Entry} (hne : d ≠ ch) (h : e.belongsTo d = true) : e.belongsTo ch = false := by
  unfold Entry.belongsTo at h ⊢
  cases hr : e.repair? with
  | none => rfl
  | some r =>
    simp only [hr, beq_iff_eq] at h ⊢
    simpa [h] using hne

theorem Entry.reopen_cases (d : Chan) (e : Entry) :
    e.reopen d = e ∨ e.belongsTo d = true ∧ (e.reopen d).belongsTo d = true := by
  unfold Entry.reopen Entry.belongsTo
  cases hr : e.repair? with
  | none => exact .inl rfl
  | some r =>
    by_cases hd : r.channel = d
    · simp [hd, Entry.repair?]
    · simp [hd]

/-- A step leaves the entries of a channel as they are. -/
def State.KeepsEntries (s t : State) (ch : Chan) : Prop := ∀ i : Fin 64, Entry.KeptFor ch s.table[i.val] t.table[i.val]

namespace State.KeepsEntries

variable {s t u : State} {ch : Chan}

theorem of_table (h : t.table = s.table) : s.KeepsEntries t ch := fun _ _ => by rw [h]

theorem trans (h : s.KeepsEntries t ch) (h' : t.KeepsEntries u ch) : s.KeepsEntries u ch := fun i => (h i).trans (h' i)

theorem choose (h : s.KeepsEntries t ch) : s.KeepsEntries t.choose ch := h.trans (.of_table t.choose_table)

/-- An engine that goes on commits entries of a started channel alone. -/
theorem of_engineFrame (h : s.EngineFrame t) (hs : s.chan[ch.val].control.state = .service) : s.KeepsEntries t ch := by
  intro i hb
  rcases h.entry i with e | ⟨p, e, e'⟩ | ⟨r, e, e', hst⟩
  · exact e
  · rw [e, e'] at hb
    simp [Entry.belongsTo, Entry.repair?] at hb
  · rw [e, e'] at hb
    simp only [Entry.belongsTo, Entry.repair?, beq_iff_eq, or_self] at hb
    subst hb
    rw [hs] at hst
    cases hst

/-- PREPARING's steps reopen the entries of their channel alone. -/
theorem prepare {d : Chan} (hne : d ≠ ch) (hs : s.chan[ch.val].control.state = .service) :
    s.KeepsEntries (s.prepare d) ch := by
  obtain ⟨e, he, hp⟩ := s.prepare_eq d
  rw [hp]
  refine trans (fun i hb => ?_) (of_engineFrame (e.takeElementAt_frame d _) (by rw [he.other ch hne]; exact hs))
  rcases he.entry i with ⟨ht, -⟩ | ⟨p, -, -, hfree, ht⟩
  · rw [ht] at hb ⊢
    rcases s.table[i.val].reopen_cases d with e | ⟨h1, h2⟩
    · exact e
    · exact Entry.KeptFor.of_neither (Entry.belongsTo_other hne h1) (Entry.belongsTo_other hne h2) hb
  · rw [hfree, ht] at hb
    simp [Entry.belongsTo, Entry.repair?] at hb

theorem prepareIfReady {d : Chan} (hne : d ≠ ch) (hs : s.chan[ch.val].control.state = .service) :
    s.KeepsEntries (s.prepareIfReady d) ch := by
  unfold State.prepareIfReady
  split
  · exact (prepare hne hs).choose
  · exact .of_table rfl

/-- A service changes entries of its channel alone. -/
theorem serves {d : Chan} (hne : d ≠ ch) (h : s.ServedEntries t d) : s.KeepsEntries t ch := by
  intro i hb
  rcases h i with e | ⟨he, he'⟩
  · exact e
  · refine Entry.KeptFor.of_neither ?_ ?_ hb
    · rcases he with he | he
      · rw [he]; rfl
      · exact Entry.belongsTo_other hne he
    · rcases he' with he' | ⟨r, he', hr⟩
      · rw [he']; rfl
      · refine Entry.belongsTo_other (d := d) hne ?_
        rw [he']
        simpa [Entry.belongsTo, Entry.repair?] using hr

/-- An abort changes entries of its channel alone. -/
theorem aborts {d : Chan} (hne : d ≠ ch) (h : s.Aborts t d) : s.KeepsEntries t ch := by
  intro i
  have ht := h.table i
  have aborted {r : Repair} {y : Entry} (hy : y.repair? = some r) (hr : r.channel = d) :
      (if s.chan[d.val].control.state = .preparing then Entry.tentative { r with origin := .carried }
        else if r.origin = .found then .free else y).belongsTo ch = false := by
    split_ifs
    · exact Entry.belongsTo_other hne (by simpa [Entry.belongsTo, Entry.repair?] using hr)
    · rfl
    · exact Entry.belongsTo_other hne (by simpa [Entry.belongsTo, hy] using hr)
  cases hx : s.table[i.val] with
  | free => exact fun _ => by simpa only [hx] using ht
  | lent p =>
    simp only [hx] at ht
    rw [ht]
    split
    · exact fun _ => rfl
    · exact .of_neither rfl rfl
  | tentative r =>
    simp only [hx] at ht
    rw [ht]
    by_cases hr : r.channel = d
    · rw [if_neg (not_not.2 hr)]
      exact .of_neither (Entry.belongsTo_other hne (by simpa [Entry.belongsTo, Entry.repair?] using hr)) (aborted rfl hr)
    · rw [if_pos hr]
      exact fun _ => rfl
  | active r =>
    simp only [hx] at ht
    rw [ht]
    by_cases hr : r.channel = d
    · rw [if_neg (not_not.2 hr)]
      exact .of_neither (Entry.belongsTo_other hne (by simpa [Entry.belongsTo, Entry.repair?] using hr)) (aborted rfl hr)
    · rw [if_pos hr]
      exact fun _ => rfl

end State.KeepsEntries

/-- Every way a step goes but a reset, a load or the channel's RETEST keeps the entries of a channel that serves and has no
work at the allocator. -/
theorem State.Goes.keepsEntries {c : Instr} {s t : State} {ch : Chan} (h : s.Goes c t) (hf : s.loader.phase = .finished)
    (hs : s.chan[ch.val].control.state = .service) (hi : s.allocator.item.serves ch = false)
    (ha : s.allocator.item.analyses ch = false) (hc : endsService ch c = false) : s.KeepsEntries t ch := by
  have same {u : State} (h : s.SameWork u) : u.chan[ch.val].control.state = .service := by rw [h.control]; exact hs
  have first {u : State} (h : s.SameWork u) : s.KeepsEntries u ch := .of_table h.table
  have other {d : Chan} {x : ChannelState} (hd : s.chan[d.val].control.state = x) (hx : x ≠ .service) : d ≠ ch := by
    rintro rfl
    exact hx (hd.symm.trans hs)
  cases h with
  | same h => exact first h
  | powerOn he => subst he; cases hc
  | warm he => subst he; cases hc
  | loadFailed _ _ hp => rw [hf] at hp; cases hp
  | loadGood _ _ _ hp => rw [hf] at hp; cases hp
  | @retest u d he h =>
    have hne : d ≠ ch := by
      rintro rfl
      rw [hc] at he
      cases he
    have hu : (u.onControl d fun k => { k with state := .preparing, outcome := .none }).chan[ch.val].control.state = .service := by
      rw [State.onControl_other _ hne]
      exact same h
    exact (first h).trans (.trans (.of_table rfl) (.prepareIfReady hne hu))
  | @abort u d h hr =>
    obtain ⟨a, h', e⟩ := u.takeAbort_eq d
    have hne : d ≠ ch := by
      rintro rfl
      rw [hs] at hr
      cases hr
    rw [e]
    exact ((first h).trans (.aborts hne h')).choose
  | @prepare u d h hp => exact ((first h).trans (.prepare (other hp nofun) (same h))).choose
  | append d item h => exact .of_table h.table
  | answer d item rest h => exact .of_table h.table
  | stall d h => exact .of_table h.table
  | issue d o h => exact .of_table h.table
  | discard d o h => exact State.KeepsEntries.choose (.of_table h.table)
  | @compare u d o word h ho hu =>
    rw [u.engineReturn_eq d o word hu]
    refine ((first h).trans (.trans (t := u.onChan d _) (.of_table rfl) (.of_engineFrame (operationDone_frame _ d) ?_))).choose
    rw [u.onChan_control d ch]; exacts [same h, rfl]
  | write d h => exact ((first h).trans (.of_engineFrame (operationDone_frame _ d) (same h))).choose
  | holdEnds d i h => exact ((first h).trans (.of_engineFrame (takeElementAt_frame _ d i) (same h))).choose
  | @service u f kind h hitem =>
    have hne : f.channel ≠ ch := by
      intro e
      rw [hitem, AllocatorItem.serves, e] at hi
      simp at hi
    refine (((first h).trans (.serves hne (u.serveRecord_servedEntries f kind))).trans
      (.trans (t := (u.serveRecord f kind).idleAllocator) (.of_table rfl) (.of_engineFrame (drainTest_frame _ f.channel) ?_))).choose
    show (u.serveRecord f kind).chan[ch.val].control.state = .service
    rw [(u.serveRecord_frame f kind).control]; exact same h
  | @analysis u d flag h hitem =>
    have hne : d ≠ ch := by
      intro e
      rw [hitem, AllocatorItem.analyses, e] at ha
      simp at ha
    refine (((first h).trans (.serves hne (u.analyse_servedEntries d flag))).trans
      (.trans (t := (u.analyse d flag).idleAllocator) (.of_table rfl) (.of_engineFrame (analysisReport_frame _ d) ?_))).choose
    show (u.analyse d flag).chan[ch.val].control.state = .service
    rw [(u.analyse_frame d flag).control]; exact same h

/-- Settles O60. -/
theorem entriesAreFixedInService : Obligations.EntriesAreFixedInService := by
  intro c ch s t hf hr hi ha _ _ hc ht i hb
  exact (State.exec_goes ht).keepsEntries hf ((s.ready_iff ch).1 hr) hi ha hc i hb

end Sys2Proof.Machine

/-! PROOFS. Service and held-off behaviour (Chapter 3): each command of the controller's bus as one update of its channel
(O19 to O24). -/

namespace Sys2Proof.Machine

/-! ## Which way a command goes -/

theorem State.served_service (s : State) {ch : Chan} (effect : State → State) (h : s.chan[ch.val].control.state = .service) :
    s.quiet.served ch effect = effect s.quiet := by
  unfold State.served
  rw [if_pos]
  simpa [Channel.serving] using h

theorem State.served_heldOff (s : State) {ch : Chan} (effect : State → State) (h : s.chan[ch.val].control.state ≠ .service) :
    s.quiet.served ch effect = s.quiet.heldOff ch := by
  unfold State.served
  rw [if_neg]
  simpa [Channel.serving] using h

/-- Two updates of a channel with idle buses are one if they agree on it. -/
theorem State.onChan_quiet (s : State) (ch : Chan) {f g : Channel → Channel}
    (h : f { s.chan[ch.val] with pins := ⟨[], []⟩ } = g { s.chan[ch.val] with pins := ⟨[], []⟩ }) :
    s.quiet.onChan ch f = s.quiet.onChan ch g :=
  State.onChan_congr _ _ (by rw [State.quiet_chan]; exact h)

/-! ## Commands to a serving path -/

/-- Settles O19. -/
theorem servedOpenRowIsRedirected : Obligations.ServedOpenRowIsRedirected := by
  intro ch bank row s hs
  have hexec : exec (.openRow ch bank row) s = .next (s.quiet.servedOpenRow ch bank row) := by
    show execOpenRow ch bank row s = _
    rw [execOpenRow, State.served_service s _ hs]
  simp only [hexec, Host.Outcome.next.injEq, Fin.getElem_fin, State.servedOpenRow, State.quiet_servedGeometry,
    Geometry.serviceRows, State.quiet_rowLookup, State.track, State.countAnomaly, State.drive_eq, State.onPath_eq,
    State.onChan_onChan]
  refine ⟨fun hr reserve hl => ?_, fun hr hl => ?_, fun hr => ?_⟩
  · rw [if_pos hr]
    simp only [hl]
    exact State.onChan_quiet s ch rfl
  · rw [if_pos hr]
    simp only [hl]
    exact State.onChan_quiet s ch rfl
  · rw [if_neg (by omega)]
    exact State.onChan_quiet s ch rfl

/-- How a bank of a serving path is used, by its place in the tracker. -/
theorem Channel.bankUse_closed {c : Channel} {bank : Bank} (h : bankAt c.path.tracker bank = none) : c.bankUse bank = .closed := by
  simp [Channel.bankUse, h]

theorem Channel.bankUse_intrusion {c : Channel} {bank : Bank} {o : OpenRow} (h : bankAt c.path.tracker bank = some o)
    (ht : c.servedGeometry.rows - c.servedGeometry.q ≤ o.target.toNat) : c.bankUse bank = .intrusion o.target := by
  simp [Channel.bankUse, h, Geometry.serviceRows, Nat.not_lt.2 ht]

theorem Channel.bankUse_service {c : Channel} {bank : Bank} {o : OpenRow} (h : bankAt c.path.tracker bank = some o)
    (ht : o.target.toNat < c.servedGeometry.rows - c.servedGeometry.q) : c.bankUse bank = .service o.target := by
  simp [Channel.bankUse, h, Geometry.serviceRows, ht]

theorem State.quiet_bankUse (s : State) (ch : Chan) (bank : Bank) :
    s.quiet.chan[ch.val].bankUse bank = s.chan[ch.val].bankUse bank := by
  rw [State.quiet_chan]; rfl

/-- A READ that is taken appends its item, and is counted in a closed bank. -/
theorem State.servedRead_taken (s : State) (ch : Chan) (bank : Bank) (column : Column)
    (h : s.chan[ch.val].path.returns.length < 32) :
    let c := s.chan[ch.val]
    let b := decodeBank c.servedGeometry bank
    s.quiet.servedRead ch bank column = s.quiet.onChan ch fun c' => { c' with
      pins := ⟨[.read bank column], []⟩
      path := { c'.path with
        returns := c'.path.returns ++ [s.readItem ch b (decodeColumn c.servedGeometry column)]
        anomalies := if c.bankUse b = .closed then c.path.anomalies.countUnopened else c.path.anomalies } } := by
  dsimp only
  have hitem (b : Bank) (x : Column) : s.quiet.readItem ch b x = s.readItem ch b x := by
    simp only [State.readItem, Fin.getElem_fin, State.quiet_bankUse, State.quiet_wordLookup]
    rfl
  simp only [State.servedRead, Config.returnDepth, Fin.getElem_fin, State.quiet_path, if_neg (Nat.not_le.2 h),
    State.quiet_servedGeometry, State.quiet_bankUse, hitem]
  split
  · simp only [State.appendReturn, State.countAnomaly, State.drive_eq, State.onPath_eq, State.onChan_onChan]
    exact State.onChan_quiet s ch rfl
  · simp only [State.appendReturn, State.drive_eq, State.onPath_eq, State.onChan_onChan]
    exact State.onChan_quiet s ch rfl

/-- Settles O20. -/
theorem servedReadIsForwardedOrRefused : Obligations.ServedReadIsForwardedOrRefused := by
  intro ch bank column s hs
  have hexec : exec (.read ch bank column) s = .next (s.quiet.servedRead ch bank column) := by
    show execRead ch bank column s = _
    unfold execRead
    rw [if_pos]
    simpa [Channel.serving] using hs
  simp only [hexec, Host.Outcome.next.injEq, Fin.getElem_fin]
  refine ⟨fun h => ?_, fun h hb => ?_, fun o h hb ht => ?_, fun o h hb ht => ⟨fun hl => ?_, fun i w hl => ?_⟩⟩
  · simp only [State.servedRead, Config.returnDepth, Fin.getElem_fin, State.quiet_path, if_pos h]
    rfl
  · have hu := Channel.bankUse_closed hb
    rw [s.servedRead_taken ch bank column h]
    simp only [State.readItem, Fin.getElem_fin, hu, if_true]
    rfl
  · have hu := Channel.bankUse_intrusion hb ht
    rw [s.servedRead_taken ch bank column h]
    simp only [State.readItem, Fin.getElem_fin, hu]
    rfl
  · have hu := Channel.bankUse_service hb ht
    rw [s.servedRead_taken ch bank column h]
    simp only [State.readItem, Fin.getElem_fin, hu, hl]
    rfl
  · have hu := Channel.bankUse_service hb ht
    rw [s.servedRead_taken ch bank column h]
    simp only [State.readItem, Fin.getElem_fin, hu, hl]
    rfl

/-- Settles O21. -/
theorem servedWriteIsForwardedMaskedOrMirrored : Obligations.ServedWriteIsForwardedMaskedOrMirrored := by
  intro ch bank column word lanes s hs
  have hexec : exec (.write ch bank column word lanes) s = .next (s.quiet.servedWrite ch bank column word lanes) := by
    show execWrite ch bank column word lanes s = _
    rw [execWrite, State.served_service s _ hs]
  have hsent (l : Lanes) : s.quiet.drive ch (.write bank column word l) = s.quiet.onChan ch fun c => { c with
      pins := ⟨[.write bank column word l], []⟩, path := { c.path with anomalies := s.chan[ch.val].path.anomalies } } := by
    rw [State.drive_eq]
    exact State.onChan_quiet s ch rfl
  simp only [hexec, Host.Outcome.next.injEq, Fin.getElem_fin, State.servedWrite, State.quiet_servedGeometry,
    State.quiet_bankUse, State.quiet_allocation, State.quiet_wordLookup, reserveIndex, Geometry.serviceRows]
  refine ⟨fun hb => ?_, fun o hb ht => ⟨fun hh => ?_, fun hh => ?_⟩, fun o hb ht => ⟨fun hl => ?_, fun i w hl => ?_⟩⟩
  · simp only [Channel.bankUse_closed hb, State.countAnomaly, State.drive_eq, State.onPath_eq, State.onChan_onChan]
    exact State.onChan_quiet s ch rfl
  · simp only [Channel.bankUse_intrusion hb ht]
    rw [if_pos hh]
    simp only [State.countAnomaly, State.drive_eq, State.onPath_eq, State.onChan_onChan]
    exact State.onChan_quiet s ch rfl
  · simp only [Channel.bankUse_intrusion hb ht]
    rw [if_neg hh]
    exact hsent lanes
  · simp only [Channel.bankUse_service hb ht, hl]
    exact hsent lanes
  · refine ⟨mergeLanes s.spare[i][w] word lanes, ?_, fun k hk => mergeLanes_bit _ _ _ hk⟩
    simp only [Channel.bankUse_service hb ht, hl, hsent]
    rfl

/-- Settles O22. -/
theorem servedCloseRefreshModeSetAreForwarded : Obligations.ServedCloseRefreshModeSetAreForwarded := by
  intro ch s hs
  have hexec (i : Instr) (effect : State → State) (h : exec i s = .next (s.quiet.served ch effect)) :
      exec i s = .next (effect s.quiet) := by rw [h, State.served_service s _ hs]
  have hquiet {f g : Channel → Channel}
      (h : f { s.chan[ch.val] with pins := ⟨[], []⟩ } = g { s.chan[ch.val] with pins := ⟨[], []⟩ }) :
      Host.Outcome.next (φ := Fault) (ρ := Refusal) (s.quiet.onChan ch f) = .next (s.quiet.onChan ch g) := by
    rw [State.onChan_quiet s ch h]
  refine ⟨fun bank => ?_, ?_, ?_, fun register value => ?_⟩
  · rw [hexec (.closeBank ch bank) _ rfl]
    simp only [State.track, Fin.getElem_fin, State.quiet_servedGeometry, State.drive_eq, State.onPath_eq, State.onChan_onChan]
    exact hquiet rfl
  · rw [hexec (.closeAll ch) _ rfl]
    simp only [State.trackClosed, State.drive_eq, State.onPath_eq, State.onChan_onChan]
    exact hquiet rfl
  · rw [hexec (.refresh ch) _ rfl]
    simp only [State.trackClosed, State.drive_eq, State.onPath_eq, State.onChan_onChan]
    exact hquiet rfl
  · rw [hexec (.modeSet ch register value) _ rfl, State.drive_eq]
    exact hquiet rfl

/-! ## Commands to a held-off path -/

/-- Settles O23. -/
theorem heldOffCommandsAreDropped : Obligations.HeldOffCommandsAreDropped := by
  intro ch s hs
  have hexec {i : Instr} {effect : State → State} (h : exec i s = .next (s.quiet.served ch effect)) :
      exec i s = .next (s.quiet.heldOff ch) := by rw [h, State.served_heldOff s _ hs]
  exact ⟨fun _ _ => hexec rfl, fun _ _ _ _ => hexec rfl, fun _ => hexec rfl, hexec rfl, hexec rfl, fun _ _ => hexec rfl⟩

/-- Settles O24. -/
theorem heldOffReadIsPoisoned : Obligations.HeldOffReadIsPoisoned := by
  intro ch bank column s hs
  have hexec : exec (.read ch bank column) s = .next (s.quiet.heldOffRead ch) := by
    show execRead ch bank column s = _
    unfold execRead
    rw [if_neg]
    simpa [Channel.serving] using hs
  simp only [hexec, Host.Outcome.next.injEq, Fin.getElem_fin, State.heldOffRead, State.quiet_path, Config.returnDepth]
  refine ⟨fun h => ?_, fun h hl => ?_, fun hl => ?_⟩
  · rw [if_pos h]
    simp only [State.heldOff, State.countAnomaly, State.deliver_eq, State.onPath_eq, State.onChan_onChan]
    exact State.onChan_quiet s ch rfl
  · rw [if_neg h, if_neg (Nat.not_le.2 hl)]
    simp only [State.heldOff, State.countAnomaly, State.appendReturn, State.onPath_eq, State.onChan_onChan]
    exact State.onChan_quiet s ch rfl
  · rw [if_neg (by rintro e; rw [e] at hl; simp at hl), if_pos hl]
    simp only [State.heldOff, State.countAnomaly, State.onPath_eq, State.onChan_onChan]
    exact State.onChan_quiet s ch rfl

end Sys2Proof.Machine

/-! PROOFS. Device read returns (R42, R53, R91): the path's answer, and the engine's compare with its place in the Fail Queue
(O25, O26). -/

namespace Sys2Proof.Machine

theorem State.quiet_readReturn_path (s : State) (ch : Chan) (word : Word) (item : ReturnItem) (rest : List ReturnItem)
    (h : s.chan[ch.val].path.returns = item :: rest) (hi : item ≠ .poison) :
    s.quiet.readReturn ch word = s.quiet.pathReturn ch item rest word := by
  simp only [State.readReturn, Fin.getElem_fin, State.quiet_path, h, oldestWaiting_head item rest hi]

/-- A return that no item of the path waits for goes to the engine. -/
theorem State.quiet_readReturn_engine (s : State) (ch : Chan) (word : Word)
    (h : ∀ item ∈ s.chan[ch.val].path.returns, item = .poison) :
    s.quiet.readReturn ch word = match s.chan[ch.val].engine.outstanding with
      | some o => (s.quiet.engineReturn ch o word).choose
      | none => s.quiet := by
  simp only [State.readReturn, Fin.getElem_fin, State.quiet_path, State.quiet_engine, oldestWaiting_none _ h] <;> rfl

/-- Settles O25. -/
theorem deviceReturnIsRouted : Obligations.DeviceReturnIsRouted := by
  intro ch word s
  have hexec : exec (.deviceReadReturn ch word) s = .next (s.quiet.readReturn ch word) := rfl
  simp only [hexec, Host.Outcome.next.injEq, Fin.getElem_fin]
  refine ⟨fun item rest h hi => ?_, fun h => ⟨fun ho => ?_, fun o ho hu hlaw => ?_⟩⟩
  · rw [s.quiet_readReturn_path ch word item rest h hi, State.pathReturn, State.flushPoison_eq, State.deliver_eq,
      State.onChan_onChan]
    refine State.onChan_quiet s ch ?_
    cases item with
    | device => rfl
    | captured w => rfl
    | poison => exact absurd rfl hi
  · rw [s.quiet_readReturn_engine ch word h]
    simp only [ho]
  · rw [s.quiet_readReturn_engine ch word h]
    simp only [ho, State.engineReturn, hu, if_true]
    refine State.choose_idle _ (State.ChoiceLaw.onChan ?_ (State.ChoiceLaw.congr (State.SameWork.quiet s) hlaw))
    rfl

/-- The youngest record takes in a failure of its address and phase (R117, R118). -/
theorem FailQueue.place_merge (q : FailQueue) (f : FailRecord) (older : List FailRecord) (youngest : FailRecord)
    (h : q.records = older ++ [youngest])
    (hf : youngest.phase = f.phase ∧ youngest.bank = f.bank ∧ youngest.row = f.row ∧ youngest.column = f.column) :
    q.place f = { q with
      records := older ++ [youngest.merge f]
      counters := { q.counters with merges := Counter.inc q.counters.merges } } := by
  have hsame : youngest.sameAddress f = true := by simp [FailRecord.sameAddress, hf]
  simp [FailQueue.place, h, hsame]

/-- A failure with no record of its address and phase at the young end is appended (R119). -/
theorem FailQueue.place_append (q : FailQueue) (f : FailRecord)
    (h : ∀ youngest : FailRecord, q.records.getLast? = some youngest →
      ¬ (youngest.phase = f.phase ∧ youngest.bank = f.bank ∧ youngest.row = f.row ∧ youngest.column = f.column)) :
    q.place f = { q with
      records := q.records ++ [f]
      counters := { q.counters with appended := Counter.inc q.counters.appended } } := by
  unfold FailQueue.place
  cases hl : q.records.getLast? with
  | none => rfl
  | some youngest =>
    have hsame : youngest.sameAddress f = false := by
      rw [Bool.eq_false_iff]
      intro hs
      refine h youngest hl ?_
      simpa [FailRecord.sameAddress, and_assoc] using hs
    simp [hsame]

theorem FailQueue.capture_eq (q : FailQueue) (f : FailRecord) (position : Nat) : q.capture f position = { q with
    firstRaw := if f.phase = .raw then some (q.firstRaw.getD (FirstFail.of f position)) else q.firstRaw
    firstVerify := if f.phase = .verify then some (q.firstVerify.getD (FirstFail.of f position)) else q.firstVerify } := by
  unfold FailQueue.capture
  cases f.phase <;> rfl

/-- Settles O26. -/
theorem engineReturnIsCompared : Obligations.EngineReturnIsCompared := by
  intro ch word o s h ho hu
  have hexec : exec (.deviceReadReturn ch word) s = .next (s.quiet.engineReturn ch o word).choose := by
    show Host.Outcome.next (s.quiet.readReturn ch word) = _
    rw [s.quiet_readReturn_engine ch word h]
    simp only [show s.chan[ch.val].engine.outstanding = some o from ho]
  have hword : s.quiet.expectedWord ch o.op o.address = s.expectedWord ch o.op o.address :=
    State.expectedWord_congr (s := s.quiet) (t := s) ch rfl rfl (s.quiet_setup ch) (s.quiet_patterns ch) (by rw [s.quiet_engine])
      (by rw [s.quiet_engine]) (by rw [s.quiet_engine]) _ _
  have hcompare : s.quiet.compareReturn ch o word = o.captured.getD word ^^^ s.expectedWord ch o.op o.address := by
    rw [State.compareReturn, hword]; rfl
  have hzero : o.captured.getD word ^^^ s.expectedWord ch o.op o.address = 0
      ↔ o.captured.getD word = s.expectedWord ch o.op o.address := BitVec.xor_eq_zero_iff
  simp only [hexec, Host.Outcome.next.injEq, Fin.getElem_fin, s.quiet.engineReturn_eq ch o word hu, State.queueAfter, hcompare]
  have done {f g : Channel → Channel}
      (h : f { s.chan[ch.val] with pins := ⟨[], []⟩ } = g { s.chan[ch.val] with pins := ⟨[], []⟩ }) :
      ((s.quiet.onChan ch f).operationDone ch).choose = ((s.quiet.onChan ch g).operationDone ch).choose := by
    rw [State.onChan_quiet s ch h]
  refine ⟨fun he => ?_, fun hne older youngest hr hy => ?_, fun hne hy => ?_⟩
  · rw [State.onEngine_eq]
    refine done ?_
    rw [if_pos (hzero.2 he), State.quiet_queue]
  · refine done ?_
    rw [if_neg fun h => hne (hzero.1 h), FailQueue.capture_eq, State.quiet_queue, State.quiet_engine,
      FailQueue.place_merge _ _ older youngest hr hy]
    rfl
  · refine done ?_
    rw [if_neg fun h => hne (hzero.1 h), FailQueue.capture_eq, State.quiet_queue, State.quiet_engine,
      FailQueue.place_append _ _ hy]
    rfl

end Sys2Proof.Machine

/-! PROOFS. Maintenance commands (Chapter 11) that answer a status, and the small commands: STARTING and the port's framing,
refusals, RETEST, ACKNOWLEDGE, the run clock and the step itself (O1, O2, O8, O9, O15, O16, O18, O36). -/

namespace Sys2Proof.Machine

/-! ## How a maintenance command is taken (R168, R169) -/

theorem State.quiet_maintenance {s : State} (effect : State → State) (h : s.loader.phase = .finished) :
    s.quiet.maintenance effect = effect s.quiet := if_pos h

theorem State.quiet_maintenance_starting {s : State} (effect : State → State) (h : s.loader.phase ≠ .finished) :
    s.quiet.maintenance effect = s.quiet.setReply [statusStarting] := if_neg h

theorem State.quiet_channelCommand_starting {s : State} (arg : Byte) (effect : State → Chan → State)
    (h : s.loader.phase ≠ .finished) : s.quiet.channelCommand arg effect = s.quiet.setReply [statusStarting] :=
  State.quiet_maintenance_starting _ h

theorem State.quiet_channelCommand {s : State} {arg : Byte} {ch : Chan} (effect : State → Chan → State)
    (h : s.loader.phase = .finished) (ha : arg.toNat = ch.val) : s.quiet.channelCommand arg effect = effect s.quiet ch :=
  State.channelCommand_eq s.quiet effect h ha

theorem State.quiet_channelCommand_refused {s : State} {arg : Byte} (effect : State → Chan → State)
    (h : s.loader.phase = .finished) (ha : 3 < arg.toNat) :
    s.quiet.channelCommand arg effect = s.quiet.setReply [statusBadArgument] := by
  have hnone : channelArgument arg = none := dif_neg (by omega)
  rw [State.channelCommand, State.quiet_maintenance _ h]
  simp only [hnone]

/-- A code that is not of Table 11.1 is none of the nine. -/
theorem unknownCode_iff (code arg : Byte) : (Instr.unknownCommand code arg).WellFormed = true ↔
    code ≠ 0x01#8 ∧ code ≠ 0x02#8 ∧ code ≠ 0x03#8 ∧ code ≠ 0x04#8 ∧ code ≠ 0x05#8 ∧ code ≠ 0x06#8 ∧ code ≠ 0x10#8
      ∧ code ≠ 0x11#8 ∧ code ≠ 0x12#8 := by
  simp [Instr.WellFormed, maintenanceCodes]

theorem exec_unknownCommand {code arg : Byte} (h : (Instr.unknownCommand code arg).WellFormed = true) (s : State) :
    exec (.unknownCommand code arg) s = .next (s.quiet.maintenance fun s => s.setReply [statusBadArgument]) := by
  obtain ⟨h1, h2, h3, h4, h5, h6, h7, h8, h9⟩ := (unknownCode_iff code arg).1 h
  show execUnknownCommand code arg s = _
  simp only [execUnknownCommand, h1, h2, h3, h4, h5, h6, h7, h8, h9, if_false]

/-- A state with idle buses is quiet. -/
theorem State.quiet_of_idle {s : State} (hp : ∀ c : Chan, s.chan[c.val].pins = ⟨[], []⟩) (hb : s.spiOut = []) :
    s.quiet = s := by
  refine State.ext_chan (fun c => ?_) rfl rfl rfl rfl rfl rfl rfl hb.symm rfl
  rw [State.quiet_chan, ← hp c]

/-! ## The step -/

theorem State.mapChan_congr (s : State) {f g : Chan → Channel → Channel}
    (h : ∀ c : Chan, f c s.chan[c.val] = g c s.chan[c.val]) : s.mapChan f = s.mapChan g :=
  State.ext_chan (fun c => by rw [State.mapChan_chan, State.mapChan_chan, h]) rfl rfl rfl rfl rfl rfl rfl rfl rfl

/-- Settles O1. -/
theorem stepRunsFrontCommand : Obligations.StepRunsFrontCommand := by
  refine ⟨fun c s rest h => by rw [step, h], fun s h => ?_⟩
  rw [step, h]
  refine congrArg Host.Outcome.next (State.mapChan_congr _ fun c => ?_)
  obtain ⟨control, setup, path, engine, timers, queue, allocation, patterns, result, baselines, pins⟩ := s.quiet.chan[c.val]
  obtain ⟨mode, elapsed, hold, running, clock, clamps⟩ := timers
  cases hold <;> rfl

/-- Settles O2. -/
theorem everyCommandCompletes : Obligations.EveryCommandCompletes := by
  intro c s
  cases c
  case unknownCommand code arg =>
    show ∃ t, execUnknownCommand code arg s = .next t
    unfold execUnknownCommand
    split_ifs <;> exact ⟨_, rfl⟩
  all_goals exact ⟨_, rfl⟩

/-- Settles O36. -/
theorem runClockCountsMilliseconds : Obligations.RunClockCountsMilliseconds := by
  intro ch s
  have hexec : exec (.runClockMillisecond ch) s = .next (s.quiet.onTimers ch Timers.millisecond) := rfl
  simp only [hexec, Host.Outcome.next.injEq, Fin.getElem_fin]
  refine ⟨fun h => State.onChan_quiet s ch ?_, fun h => State.onChan_id _ ch _ ?_⟩
  · simp only [Timers.millisecond, h, if_true, Counter.inc, Counter.add]
  · simp [Timers.millisecond, h, State.quiet_chan]

/-! ## STARTING and the framing of the port (R168) -/

theorem exec_starting (c : Instr) (s : State) (hc : isMaintenance c = true) (h : s.loader.phase ≠ .finished) :
    exec c s = .next (s.quiet.setReply [statusStarting]) := by
  cases c
  case getStatus arg => exact congrArg _ (State.quiet_maintenance_starting _ h)
  case getResult arg => exact congrArg _ (State.quiet_channelCommand_starting arg _ h)
  case getEntry arg => exact congrArg _ (State.quiet_maintenance_starting _ h)
  case getTally arg => exact congrArg _ (State.quiet_channelCommand_starting arg _ h)
  case getReserve arg => exact congrArg _ (State.quiet_maintenance_starting _ h)
  case getCounters arg => exact congrArg _ (State.quiet_channelCommand_starting arg _ h)
  case retest arg => exact congrArg _ (State.quiet_channelCommand_starting arg _ h)
  case abort arg => exact congrArg _ (State.quiet_channelCommand_starting arg _ h)
  case acknowledge arg => exact congrArg _ (State.quiet_maintenance_starting _ h)
  case unknownCommand code arg =>
    show execUnknownCommand code arg s = _
    simp only [execUnknownCommand, execGetStatus, execGetResult, execGetEntry, execGetTally, execGetReserve, execGetCounters,
      execRetest, execAbort, execAcknowledge, State.quiet_channelCommand_starting _ _ h, State.quiet_maintenance_starting _ h,
      ite_self]
  all_goals exact absurd hc (by simp [isMaintenance])

theorem portAcknowledges_iff (address : BitVec 7) : portAcknowledges address = true ↔ address = 0x35#7 := beq_iff_eq

/-- Settles O8. -/
theorem commandsDuringStartUpAnswerStarting : Obligations.CommandsDuringStartUpAnswerStarting := by
  have hown : portAcknowledges 0x35#7 = true := rfl
  refine ⟨exec_starting, portAcknowledges_iff, fun s => ⟨fun _ _ _ => rfl, fun bytes h => ?_, fun n => ?_, fun a ha => ?_⟩,
    fun arg => ⟨rfl, fun code h => ?_⟩⟩
  · match bytes, h with
    | [], _ => rfl
    | [_], _ => rfl
  · refine ⟨(List.range n).map s.replyByte, if_pos hown, by simp, fun i hi => ?_⟩
    simp only [List.getElem?_map, List.getElem?_range hi, Option.map_some, State.replyByte, List.getD_eq_getElem?_getD]
    split_ifs with hs
    · rw [List.getElem?_eq_getElem hs, Option.getD_some]
    · rw [List.getElem?_eq_none (Nat.le_of_not_lt hs), Option.getD_none]
  · have hother : ¬ portAcknowledges a = true := fun h => ha ((portAcknowledges_iff a).1 h)
    exact ⟨fun _ => if_neg hother, fun _ => if_neg hother⟩
  · obtain ⟨h1, h2, h3, h4, h5, h6, h7, h8, h9⟩ := (unknownCode_iff code arg).1 h
    simp only [portCommand, h1, h2, h3, h4, h5, h6, h7, h8, h9, if_false]

/-! ## Refusals (R169) -/

/-- Settles O9. -/
theorem badArgumentsAreRefused : Obligations.BadArgumentsAreRefused := by
  intro arg s hf
  refine ⟨fun code h => ?_, fun c hc ha => ?_, fun ha => ?_, fun ch hch hb => ?_⟩
  · rw [exec_unknownCommand h, State.quiet_maintenance _ hf]; rfl
  · simp only [List.mem_cons, List.not_mem_nil, or_false] at hc
    obtain rfl | rfl | rfl | rfl | rfl := hc <;> exact congrArg _ (State.quiet_channelCommand_refused _ hf ha)
  · have hnone : entryArgument arg = none := dif_neg (by omega)
    refine congrArg _ ((State.quiet_maintenance _ hf).trans ?_)
    simp only [hnone]
    rfl
  · obtain rfl : reserveChannel arg = ch := Fin.ext hch
    show Host.Outcome.next _ = _
    rw [State.quiet_maintenance _ hf, if_neg]
    · rfl
    rw [Fin.getElem_fin, Channel.reserveBanks, State.quiet_geometry, reserveBank, Nat.not_lt]
    refine le_trans (le_of_eq ?_) hb
    rw [Fin.getElem_fin, Channel.geometry, Geometry.banks]
    cases s.chan[(reserveChannel arg).val].setup.settings <;> rfl

/-! ## RETEST and ACKNOWLEDGE -/

theorem exec_retest {s : State} {arg : Byte} {ch : Chan} (h : s.loader.phase = .finished) (ha : arg.toNat = ch.val) :
    exec (.retest arg) s = .next (s.quiet.retest ch) := congrArg _ (State.quiet_channelCommand _ h ha)

/-- The two states in which a RETEST is taken. -/
theorem State.retest_taken {s : State} {ch : Chan}
    (h : s.chan[ch.val].control.state = .service ∧ s.chan[ch.val].control.outcome ≠ .untested
      ∨ s.chan[ch.val].control.state = .failed) : s.retest ch = s.takeRetest ch := by
  rw [State.retest, Fin.getElem_fin]
  obtain ⟨hs, ho⟩ | hs := h
  · rw [hs]; exact if_neg ho
  · rw [hs]

/-- Settles O15. -/
theorem retestEntersPreparing : Obligations.RetestEntersPreparing := by
  intro arg ch s hf ha hs taken
  have htaken : s.quiet.retest ch = taken.prepareIfReady ch := by
    refine State.retest_taken ?_
    rw [State.quiet_control]
    obtain ⟨hs, ho⟩ | hs := hs
    · exact .inl ⟨hs, by obtain ho | ho := ho <;> simp_all⟩
    · exact .inr hs
  have hidle : taken.quiet = taken := by
    refine State.quiet_of_idle (fun c => ?_) rfl
    rw [State.onControl_chan]
    split_ifs <;> exact State.quiet_pins s _
  have hreturns : taken.chan[ch.val].path.returns = s.chan[ch.val].path.returns := by
    rw [State.onControl_same]
    exact congrArg Path.returns (State.quiet_path s ch)
  refine ⟨fun hr => ?_, fun hr => ?_⟩
  · rw [exec_retest hf ha, htaken, State.prepareIfReady, if_neg]
    rintro ⟨_, h⟩
    exact hr (hreturns ▸ h)
  · rw [exec_retest hf ha, htaken]
    show _ = Host.Outcome.next (taken.quiet.prepareIfReady ch)
    rw [hidle]

/-- Settles O16. -/
theorem hostCommandsOutOfPlaceAreRefused : Obligations.HostCommandsOutOfPlaceAreRefused := by
  intro arg ch s hf ha
  have hstate : s.quiet.chan[ch.val].control = s.chan[ch.val].control := State.quiet_control s ch
  refine ⟨fun h => ?_, fun h => ?_, fun h ho => ?_, fun h => ?_⟩
  · rw [exec_retest hf ha, State.retest, Fin.getElem_fin, hstate]
    rw [Fin.getElem_fin] at h
    cases hs : s.chan[ch.val].control.state <;> simp_all [ChannelState.running] <;> rfl
  · rw [exec_retest hf ha, State.retest, Fin.getElem_fin, hstate]
    rw [Fin.getElem_fin] at h
    rw [h]; rfl
  · rw [exec_retest hf ha, State.retest, Fin.getElem_fin, hstate]
    rw [Fin.getElem_fin] at h ho
    rw [h]; exact congrArg _ (if_pos ho)
  · refine congrArg _ ((State.quiet_channelCommand _ hf ha).trans (if_neg ?_))
    rw [Fin.getElem_fin, hstate]
    simpa using h

/-- Settles O18. -/
theorem acknowledgeSetsBaselines : Obligations.AcknowledgeSetsBaselines := by
  intro arg s hf
  have hexec : exec (.acknowledge arg) s = .next s.quiet.acknowledge := congrArg _ (State.quiet_maintenance _ hf)
  refine ⟨_, hexec, rfl, fun ch => ?_⟩
  simp only [State.acknowledge, Fin.getElem_fin, State.mapChan_chan, State.setReply_chan, State.quiet_chan]
  exact ⟨by simp [Channel.anomalyCause], rfl⟩

end Sys2Proof.Machine

/-! PROOFS. The replies of the maintenance port (R24, R132, R170 to R172): each field at its place (O10 to O14). -/

namespace Sys2Proof.Machine

/-! ## Fields of a reply -/

/-- The field of a counter at the start of a reply's rest. -/
theorem fieldAt_counter {w : Nat} (n : Nat) (c : BitVec w) (rest : List Byte) (h : w ≤ 8 * n) :
    fieldAt (numberBytes n c.toNat ++ rest) 0 n = c.toNat := by
  rw [fieldAt_numberBytes, Nat.mod_eq_of_lt]
  calc c.toNat < 2 ^ w := c.isLt
    _ ≤ 2 ^ (8 * n) := Nat.pow_le_pow_right (by decide) h
    _ = 256 ^ n := Nat.pow_mul 2 8 n

theorem fieldAt_number {n v : Nat} (rest : List Byte) (h : v < 256 ^ n) : fieldAt (numberBytes n v ++ rest) 0 n = v := by
  rw [fieldAt_numberBytes, Nat.mod_eq_of_lt h]

/-- A field after a block of bytes is a field of what follows them. -/
theorem fieldAt_skipBlock {k : Nat} (block rest : List Byte) (hk : block.length = k) {i : Nat} (m : Nat) (h : k ≤ i) :
    fieldAt (block ++ rest) i m = fieldAt rest (i - k) m := by
  have e := fieldAt_append_right block rest (i - k) m
  rwa [hk, Nat.add_sub_cancel' h] at e

theorem fieldAt_cons_pos (a : Byte) (l : List Byte) {i : Nat} (m : Nat) (h : 1 ≤ i) :
    fieldAt (a :: l) i m = fieldAt l (i - 1) m := by
  rw [← fieldAt_cons_succ a l (i - 1) m, Nat.sub_add_cancel h]

theorem fieldAt_cons_zero (a : Byte) (l : List Byte) : fieldAt (a :: l) 0 1 = a.toNat := rfl

theorem fieldAt_one (l : List Byte) (i : Nat) : fieldAt l i 1 = byteAt l i := rfl

theorem State.quiet_countersReply (s : State) (ch : Chan) : s.quiet.countersReply ch = s.countersReply ch := by
  unfold State.countersReply
  dsimp only [Fin.getElem_fin]
  rw [State.quiet_chan]

/-- Settles O14. -/
theorem getCountersCapturesGroup : Obligations.GetCountersCapturesGroup := by
  intro arg ch s hf ha
  have hexec : exec (.getCounters arg) s = .next (s.quiet.setReply (s.countersReply ch)) := by
    rw [← State.quiet_countersReply]
    exact congrArg _ (State.quiet_channelCommand _ hf ha)
  refine ⟨_, hexec, ?_⟩
  have hend : s.countersReply ch = s.countersReply ch ++ [] := (List.append_nil _).symm
  rw [hend]
  unfold State.countersReply
  dsimp only [Fin.getElem_fin]
  simp only [List.cons_append, List.append_assoc, List.length_cons, List.length_append,
    numberBytes_length, List.length_nil, fieldAt_cons_zero, fieldAt_cons_pos, fieldAt_skip, fieldAt_counter,
    Nat.reduceLeDiff, Nat.reduceMul, Nat.reduceSub, Nat.le_refl, and_self, statusOk]
  decide

/-! ## GET RESULT -/

theorem captureBytes_length (f : Option FirstFail) : (captureBytes f).length = 13 := by
  cases f <;> simp [captureBytes]

/-- The fields of a first-fail capture at the start of a reply's rest. -/
theorem fieldAt_capture (x : FirstFail) (rest : List Byte) :
    fieldAt (captureBytes (some x) ++ rest) 0 1 = 1 ∧ fieldAt (captureBytes (some x) ++ rest) 1 1 = x.bank.toNat
      ∧ fieldAt (captureBytes (some x) ++ rest) 2 2 = x.row.toNat
      ∧ fieldAt (captureBytes (some x) ++ rest) 4 2 = x.column.toNat
      ∧ fieldAt (captureBytes (some x) ++ rest) 6 1 = x.element % 256
      ∧ fieldAt (captureBytes (some x) ++ rest) 7 1 = x.pass % 256
      ∧ fieldAt (captureBytes (some x) ++ rest) 8 4 = x.position % 2 ^ 32
      ∧ fieldAt (captureBytes (some x) ++ rest) 12 1 = x.count % 256 := by
  simp only [captureBytes, List.append_assoc, fieldAt_skip, fieldAt_counter, Nat.reduceLeDiff, Nat.reduceMul,
    Nat.reduceSub, Nat.le_refl]
  simp only [fieldAt_numberBytes, Nat.reduceMod, Nat.reducePow, and_self]

theorem fieldAt_noCapture (rest : List Byte) : fieldAt (captureBytes none ++ rest) 0 13 = 0 := by
  simp [captureBytes, List.replicate, fieldAt, byteAt]

theorem RunOutcome.code_lt (x : RunOutcome) : x.code < 256 := by cases x <;> decide

theorem SettingsError.code_lt (x : SettingsError) : x.code < 256 := by cases x <;> decide

theorem Channel.joinsIgnored_mod (c : Channel) : c.joinsIgnored % 256 = match c.setup.plan with
    | some plan => plan.joinsIgnored % 256
    | none => 0 := by
  unfold Channel.joinsIgnored
  cases c.setup.plan <;> rfl

theorem State.quiet_resultReply (s : State) (ch : Chan) : s.quiet.resultReply ch = s.resultReply ch := by
  unfold State.resultReply
  dsimp only [Fin.getElem_fin]
  rw [State.quiet_chan]
  rfl

/-- Settles O11. -/
theorem getResultReportsResultRecord : Obligations.GetResultReportsResultRecord := by
  intro arg ch s hf ha c k capture
  have hexec : exec (.getResult arg) s = .next (s.quiet.setReply (s.resultReply ch)) := by
    rw [← State.quiet_resultReply]
    exact congrArg _ (State.quiet_channelCommand _ hf ha)
  refine ⟨_, hexec, ?_⟩
  have hend : s.resultReply ch = s.resultReply ch ++ [] := (List.append_nil _).symm
  rw [hend]
  unfold State.resultReply
  dsimp only [Fin.getElem_fin]
  let tail := numberBytes 4 c.result.runTime.toNat ++ (numberBytes 6 c.result.engine.reads.toNat
    ++ (numberBytes 6 c.result.engine.writes.toNat ++ (numberBytes 6 c.result.engine.refreshes.toNat ++ [])))
  have hcapture (reply : List Byte) (at_ : Nat) (f : Option FirstFail) (rest : List Byte)
      (h : ∀ i n : Nat, fieldAt reply (at_ + i) n = fieldAt (captureBytes f ++ rest) i n) : capture reply at_ f := by
    cases f with
    | none => exact (h 0 13).trans (fieldAt_noCapture rest)
    | some x =>
      have e := fieldAt_capture x rest
      simp only [← h] at e
      exact e
  simp only [List.cons_append, List.append_assoc, List.length_cons, List.length_append, numberBytes_length,
    captureBytes_length, List.length_nil, fieldAt_cons_zero, fieldAt_cons_pos, fieldAt_skip, fieldAt_counter,
    fieldAt_skipBlock _ _ (captureBytes_length _), Nat.reduceLeDiff, Nat.reduceMul, Nat.reduceSub, Nat.le_refl, statusOk]
  simp only [fieldAt_numberBytes, Nat.reducePow, Nat.mod_eq_of_lt (RunOutcome.code_lt _),
    Nat.mod_eq_of_lt (SettingsError.code_lt _)]
  refine ⟨trivial, rfl, rfl, rfl, rfl, rfl, rfl, rfl, rfl, rfl, rfl, rfl, rfl, rfl, rfl, rfl, rfl, rfl, rfl, rfl, rfl,
    (Channel.joinsIgnored_mod _).trans rfl, rfl, hcapture _ _ _ (captureBytes c.result.firstVerify ++ tail) fun i n => ?_,
    hcapture _ _ _ tail fun i n => ?_, rfl, rfl, rfl, rfl⟩
  all_goals
    simp (disch := omega) only [fieldAt_cons_pos, fieldAt_skip, fieldAt_skipBlock _ _ (captureBytes_length _)]
    exact congrArg (fieldAt _ · n) (by omega)

/-! ## GET TALLY, GET RESERVE and GET ENTRY: replies made of blocks of one width -/

/-- A field inside the block of an element, in a list of blocks of one width. -/
theorem fieldAt_block {α : Type} {k : Nat} (f : α → List Byte) (l : List α) (hf : ∀ x ∈ l, (f x).length = k) {j : Nat} {x : α}
    (h : l[j]? = some x) :
    ∃ rest : List Byte, ∀ i n : Nat, fieldAt (l.flatMap f) (k * j + i) n = fieldAt (f x ++ rest) i n := by
  induction l generalizing j with
  | nil => simp at h
  | cons y l ih =>
    cases j with
    | zero =>
      obtain rfl : y = x := by simpa using h
      exact ⟨l.flatMap f, fun i n => by rw [Nat.mul_zero, Nat.zero_add, List.flatMap_cons]⟩
    | succ j =>
      obtain ⟨rest, hrest⟩ := ih (fun z hz => hf z (List.mem_cons_of_mem _ hz)) (by simpa using h)
      refine ⟨rest, fun i n => ?_⟩
      rw [List.flatMap_cons, fieldAt_skipBlock _ _ (hf y List.mem_cons_self) n (by rw [Nat.mul_succ]; omega), ← hrest]
      exact congrArg (fieldAt _ · n) (by rw [Nat.mul_succ]; omega)

theorem flatMap_length_const {α : Type} {k : Nat} (f : α → List Byte) (l : List α) (hf : ∀ x, (f x).length = k) :
    (l.flatMap f).length = k * l.length := by
  simp [List.length_flatMap, hf, Nat.mul_comm]

/-- The block of a tally entry. -/
def TallyEntry.bytes (t : TallyEntry) : List Byte :=
  numberBytes 1 t.bank.toNat ++ numberBytes 2 t.row.toNat ++ numberBytes 1 (t.count.toNat + if t.mustRemap then 128 else 0)

theorem State.tallyReply_eq (s : State) (ch : Chan) : s.tallyReply ch =
    statusOk :: (numberBytes 1 s.chan[ch.val].allocation.tally.length
      ++ s.chan[ch.val].allocation.tally.flatMap TallyEntry.bytes) := rfl

theorem ReserveState.code_lt (x : ReserveState) : x.code < 256 := by cases x <;> decide

/-- The reserve rows of a bank that GET RESERVE reports. -/
def Channel.reportedRows (c : Channel) (bank : Nat) : List ReserveState :=
  (c.allocation.reserve.getD bank []).take c.reportedQ

theorem State.reserveReply_eq (s : State) (ch : Chan) (bank : Nat) : s.reserveReply ch bank =
    statusOk :: (numberBytes 1 s.chan[ch.val].reportedQ
      ++ (s.chan[ch.val].reportedRows bank).flatMap fun st => numberBytes 1 st.code) := rfl

theorem Channel.reportedRows_getElem {c : Channel} {bank : Bank} {j : Nat} {st : ReserveState} (hj : j < c.reportedQ)
    (h : reserveAt c.allocation.reserve bank j = some st) : (c.reportedRows bank.toNat)[j]? = some st := by
  rw [Channel.reportedRows, List.getElem?_take_of_lt hj, List.getD_eq_getElem?_getD]
  obtain ⟨l, hl, hst⟩ := Option.bind_eq_some_iff.1 h
  rw [hl]
  exact hst

/-- Settles O13. -/
theorem getTallyAndReserveReportLists : Obligations.GetTallyAndReserveReportLists := by
  intro arg ch s hf
  refine ⟨fun ha => ?_, fun ha bank hbank => ?_⟩
  · intro tally
    have hreply : s.quiet.tallyReply ch = s.tallyReply ch := by
      rw [State.tallyReply_eq, State.tallyReply_eq, State.quiet_allocation]
    have hexec : exec (.getTally arg) s = .next (s.quiet.setReply (s.tallyReply ch)) := by
      rw [← hreply]
      exact congrArg _ (State.quiet_channelCommand _ hf ha)
    refine ⟨_, hexec, ?_, rfl, ?_, fun j e he => ?_⟩
    · rw [State.tallyReply_eq, List.length_cons, List.length_append, numberBytes_length, flatMap_length_const (k := 4)]
      · simp only [tally, Fin.getElem_fin]
        omega
      · intro t
        simp [TallyEntry.bytes]
    · rw [State.tallyReply_eq, fieldAt_cons_pos _ _ _ (Nat.le_refl 1), fieldAt_numberBytes]
      rfl
    · obtain ⟨rest, hrest⟩ := fieldAt_block (k := 4) TallyEntry.bytes tally (fun t _ => by simp [TallyEntry.bytes]) he
      have hat (i n : Nat) : fieldAt (s.tallyReply ch) (2 + 4 * j + i) n = fieldAt (e.bytes ++ rest) i n := by
        rw [State.tallyReply_eq, fieldAt_cons_pos _ _ _ (by omega), fieldAt_skip _ _ _ _ (by omega), ← hrest]
        exact congrArg (fieldAt _ · n) (by omega)
      have hcount : e.count.toNat + (if e.mustRemap then 128 else 0) < 256 ^ 1 := by
        have := e.count.isLt
        split_ifs <;> omega
      rw [show 3 + 4 * j = 2 + 4 * j + 1 by omega, show 5 + 4 * j = 2 + 4 * j + 3 by omega, hat, hat,
        show 2 + 4 * j = 2 + 4 * j + 0 from rfl, hat]
      simp only [TallyEntry.bytes, List.append_assoc, fieldAt_skip, fieldAt_counter, Nat.reduceLeDiff, Nat.reduceMul,
        Nat.reduceSub, Nat.le_refl, fieldAt_number _ hcount, and_self]
  · intro c q hb
    obtain rfl : reserveChannel arg = ch := Fin.ext ha
    have hbanks : s.chan[(reserveChannel arg).val].reserveBanks = match c.setup.settings with
        | some st => 2 ^ st.geometry.b
        | none => 8 := by
      rw [Channel.reserveBanks, Channel.geometry, Geometry.banks]
      simp only [c, Fin.getElem_fin]
      cases s.chan[(reserveChannel arg).val].setup.settings <;> rfl
    have hq : s.chan[(reserveChannel arg).val].reportedQ = q := by
      rw [Channel.reportedQ, Channel.geometry]
      simp only [q, c, Fin.getElem_fin]
      cases s.chan[(reserveChannel arg).val].setup.settings <;> rfl
    have hreply : s.quiet.reserveReply (reserveChannel arg) (reserveBank arg)
        = s.reserveReply (reserveChannel arg) bank.toNat := by
      rw [State.reserveReply_eq, State.reserveReply_eq, State.quiet_chan, hbank]
      rfl
    have hexec : exec (.getReserve arg) s
        = .next (s.quiet.setReply (s.reserveReply (reserveChannel arg) bank.toNat)) := by
      rw [← hreply]
      refine congrArg Host.Outcome.next ((State.quiet_maintenance _ hf).trans (if_pos ?_))
      rw [Fin.getElem_fin, State.quiet_chan]
      show reserveBank arg < s.chan[(reserveChannel arg).val].reserveBanks
      rw [hbanks, reserveBank, ← hbank]
      exact hb
    refine ⟨_, hexec, ?_, rfl, ?_, fun j st hj hst => ?_⟩
    · rw [State.reserveReply_eq, List.length_cons, List.length_append, numberBytes_length, flatMap_length_const (k := 1)]
      · rw [Channel.reportedRows, List.length_take, hq]
        simp only [c, Fin.getElem_fin]
        omega
      · intro st
        rfl
    · rw [State.reserveReply_eq, fieldAt_cons_pos _ _ _ (Nat.le_refl 1), fieldAt_numberBytes, hq]
      rfl
    · have hrow := Channel.reportedRows_getElem (hq ▸ hj) hst
      obtain ⟨rest, hrest⟩ := fieldAt_block (k := 1) (fun st : ReserveState => numberBytes 1 st.code) _ (fun _ _ => rfl) hrow
      rw [State.reserveReply_eq, fieldAt_cons_pos _ _ _ (by omega), fieldAt_skip _ _ _ _ (by omega),
        show 2 + j - 1 - 1 = 1 * j + 0 by omega]
      exact (hrest 0 1).trans (fieldAt_number _ (ReserveState.code_lt st))

/-- The ten bytes of an entry between its state and its pattern number. -/
def Entry.placeBytes (e : Entry) : List Byte :=
  match e.repair? with
  | some r => r.fieldBytes
  | none => absentFieldBytes

/-- The pattern number that GET ENTRY reports. -/
def Entry.patternNumber : Entry → Nat
  | .lent p => p.val
  | .free => absent8
  | .tentative _ => absent8
  | .active _ => absent8

theorem Entry.fieldBytes_eq (e : Entry) : e.fieldBytes = e.placeBytes ++ numberBytes 1 e.patternNumber := by
  cases e <;> rfl

theorem Repair.fieldBytes_length (r : Repair) : r.fieldBytes.length = 10 := by
  unfold Repair.fieldBytes
  cases r.kind <;> simp

theorem Entry.placeBytes_length (e : Entry) : e.placeBytes.length = 10 := by
  unfold Entry.placeBytes
  cases e.repair? with
  | none => rfl
  | some r => exact r.fieldBytes_length

theorem RepairKind.code_lt (x : RepairKind) : x.code < 256 ^ 1 := by cases x <;> simp [RepairKind.code]

theorem Origin.code_lt (x : Origin) : x.code < 256 ^ 1 := by cases x <;> decide

theorem Scope.code_lt (x : Scope) : x.code < 256 ^ 1 := by cases x <;> decide

theorem Entry.code_lt (x : Entry) : x.code < 256 ^ 1 := by cases x <;> simp [Entry.code]

/-- The fields of a valid entry, at their places in the reply's rest. -/
theorem Repair.fieldAt_fieldBytes (r : Repair) (rest : List Byte) :
    fieldAt (r.fieldBytes ++ rest) 0 1 = r.channel.val ∧ fieldAt (r.fieldBytes ++ rest) 1 1 = r.kind.code
      ∧ fieldAt (r.fieldBytes ++ rest) 2 1 = r.origin.code ∧ fieldAt (r.fieldBytes ++ rest) 3 1 = r.bank.toNat
      ∧ fieldAt (r.fieldBytes ++ rest) 4 2 = r.row.toNat := by
  have hch : r.channel.val < 256 ^ 1 := by omega
  simp only [Repair.fieldBytes, List.append_assoc, fieldAt_skip, fieldAt_counter, Nat.reduceLeDiff, Nat.reduceMul,
    Nat.reduceSub, Nat.le_refl, fieldAt_number _ hch, fieldAt_number _ (RepairKind.code_lt _),
    fieldAt_number _ (Origin.code_lt _), and_self]

theorem Repair.fieldAt_substitute {r : Repair} {column : Column} {scope : Scope} (h : r.kind = .substitute column scope)
    (rest : List Byte) : fieldAt (r.fieldBytes ++ rest) 6 2 = column.toNat ∧ fieldAt (r.fieldBytes ++ rest) 8 1 = scope.code
      ∧ fieldAt (r.fieldBytes ++ rest) 9 1 = 0xFF := by
  simp only [Repair.fieldBytes, h, List.append_assoc, fieldAt_skip, fieldAt_counter, Nat.reduceLeDiff, Nat.reduceMul,
    Nat.reduceSub, Nat.le_refl, fieldAt_number _ (Scope.code_lt _)]
  simp only [fieldAt_numberBytes, absent8, Nat.reducePow, Nat.reduceMod, and_self]

theorem Repair.fieldAt_remap {r : Repair} {reserve : Nat} (h : r.kind = .remap reserve) (rest : List Byte) :
    fieldAt (r.fieldBytes ++ rest) 6 2 = 0xFFFF ∧ fieldAt (r.fieldBytes ++ rest) 8 1 = 0xFF
      ∧ fieldAt (r.fieldBytes ++ rest) 9 1 = reserve % 256 := by
  simp only [Repair.fieldBytes, h, List.append_assoc, fieldAt_skip, Nat.reduceLeDiff, Nat.reduceSub, Nat.le_refl,
    fieldAt_numberBytes, absent8, absent16, Nat.reducePow, Nat.reduceMod, and_self]

/-- The line that GET ENTRY reports. -/
def State.shownLine (s : State) (i : Fin 64) : Line := if s.table[i.val].showsLine then s.spare[i.val] else zeroLine

theorem State.entryReply_eq (s : State) (i : Fin 64) : s.entryReply i =
    statusOk :: (numberBytes 1 s.table[i.val].code ++ (s.table[i.val].placeBytes
      ++ (numberBytes 1 s.table[i.val].patternNumber ++ (s.shownLine i).toList.flatMap wordBytes))) := by
  rw [State.entryReply]
  simp only [Fin.getElem_fin, Entry.fieldBytes_eq, List.cons_append, List.append_assoc, State.shownLine]

theorem Entry.showsLine_iff (e : Entry) : e.showsLine = true ↔
    (∃ p : Fin 8, e = .lent p) ∨ ∃ r : Repair, e.repair? = some r ∧ r.isSubstitute = true := by
  cases e <;> simp [Entry.showsLine, Entry.repair?]

/-- Settles O12. -/
theorem getEntryReportsEntryAndLine : Obligations.GetEntryReportsEntryAndLine := by
  intro arg i s hf ha
  have harg : entryArgument arg = some i := (dif_pos (by omega)).trans (congrArg some (Fin.ext ha))
  have hexec : exec (.getEntry arg) s = .next (s.quiet.setReply (s.entryReply i)) := by
    refine congrArg Host.Outcome.next ((State.quiet_maintenance _ hf).trans ?_)
    simp only [harg]
    rfl
  have hcode : fieldAt (s.entryReply i) 1 1 = s.table[i.val].code := by
    rw [State.entryReply_eq, fieldAt_cons_pos _ _ _ (Nat.le_refl 1), fieldAt_number _ (Entry.code_lt _)]
  have hplace (k n : Nat) : fieldAt (s.entryReply i) (2 + k) n = fieldAt (s.table[i.val].placeBytes
      ++ (numberBytes 1 s.table[i.val].patternNumber ++ (s.shownLine i).toList.flatMap wordBytes)) k n := by
    rw [State.entryReply_eq, fieldAt_cons_pos _ _ _ (by omega), fieldAt_skip _ _ _ _ (by omega)]
    exact congrArg (fieldAt _ · n) (by omega)
  have hpattern : fieldAt (s.entryReply i) 12 1 = s.table[i.val].patternNumber % 256 := by
    rw [hplace 10 1, fieldAt_skipBlock _ _ (Entry.placeBytes_length _) _ (Nat.le_refl 10), fieldAt_numberBytes, Nat.pow_one]
  have hline (w : Fin 8) : fieldAt (s.entryReply i) (13 + 9 * w.val) 9 = (s.shownLine i)[w.val].toNat := by
    obtain ⟨rest, hrest⟩ := fieldAt_block (k := 9) wordBytes (s.shownLine i).toList (fun _ _ => by simp [wordBytes])
      (j := w.val) (x := (s.shownLine i)[w.val]) (by simp)
    rw [show 13 + 9 * w.val = 2 + (11 + 9 * w.val) by omega, hplace,
      fieldAt_skipBlock _ _ (Entry.placeBytes_length _) _ (by omega), fieldAt_skip _ _ _ _ (by omega),
      show 11 + 9 * w.val - 10 - 1 = 9 * w.val + 0 by omega, hrest]
    exact fieldAt_counter 9 _ rest (by decide)
  refine ⟨_, hexec, ?_, rfl, fun h => ?_, fun p h => ?_, fun r h => ?_, fun r h => ?_, fun h n hn hlt => ?_, fun h => ?_,
    fun r h => ?_, fun w => ⟨fun h => ?_, fun h => ?_⟩⟩
  · rw [State.entryReply_eq, List.length_cons, List.length_append, List.length_append, List.length_append,
      Entry.placeBytes_length, numberBytes_length, numberBytes_length,
      flatMap_length_const (k := 9) _ _ fun _ => by simp [wordBytes]]
    simp
  · rw [hcode, ← Fin.getElem_fin, h]; rfl
  · rw [hcode, hpattern, ← Fin.getElem_fin, h]
    exact ⟨rfl, Nat.mod_eq_of_lt (by simp only [Entry.patternNumber]; omega)⟩
  · rw [hcode, ← Fin.getElem_fin, h]; rfl
  · rw [hcode, ← Fin.getElem_fin, h]; rfl
  · obtain ⟨k, rfl⟩ := Nat.exists_eq_add_of_le hn
    rw [← fieldAt_one, hplace, fieldAt_one, byteAt_append_left _ _ (by rw [Entry.placeBytes_length]; omega)]
    rw [Fin.getElem_fin] at h
    simp only [Entry.placeBytes, h]
    have habsent : ∀ k : Fin 10, byteAt absentFieldBytes k.val = 0xFF := by decide
    exact habsent ⟨k, by omega⟩
  · rw [hpattern]
    rw [Fin.getElem_fin] at h
    cases he : s.table[i.val] with
    | lent p => exact absurd he (h p)
    | free => rfl
    | tentative r => rfl
    | active r => rfl
  · rw [Fin.getElem_fin] at h
    have hr : s.table[i.val].placeBytes = r.fieldBytes := by simp only [Entry.placeBytes, h]
    rw [hr] at hplace
    obtain ⟨hchannel, hkind, horigin, hbank, hrow⟩ := r.fieldAt_fieldBytes
      (numberBytes 1 s.table[i.val].patternNumber ++ (s.shownLine i).toList.flatMap wordBytes)
    refine ⟨(hplace 0 1).trans hchannel, (hplace 1 1).trans hkind, (hplace 2 1).trans horigin, (hplace 3 1).trans hbank,
      (hplace 4 2).trans hrow, ?_⟩
    split
    next column scope hk =>
      obtain ⟨hcolumn, hscope, hnone⟩ := Repair.fieldAt_substitute hk
        (numberBytes 1 s.table[i.val].patternNumber ++ (s.shownLine i).toList.flatMap wordBytes)
      exact ⟨(hplace 6 2).trans hcolumn, (hplace 8 1).trans hscope, (hplace 9 1).trans hnone⟩
    next reserve hk =>
      obtain ⟨hcolumn, hscope, hreserve⟩ := Repair.fieldAt_remap hk
        (numberBytes 1 s.table[i.val].patternNumber ++ (s.shownLine i).toList.flatMap wordBytes)
      exact ⟨(hplace 6 2).trans hcolumn, (hplace 8 1).trans hscope, (hplace 9 1).trans hreserve⟩
  · rw [hline, State.shownLine, if_pos ((Entry.showsLine_iff s.table[i.val]).2 h)]
    rfl
  · rw [hline, State.shownLine, if_neg fun e => h ((Entry.showsLine_iff s.table[i.val]).1 e)]
    simp [zeroLine]

/-! ## GET STATUS and ATTENTION (R170, R173) -/

theorem flagByte_testBit (l : List Bool) (i : Nat) : (flagByte l).testBit i = l.getD i false := by
  induction l generalizing i with
  | nil => simp [flagByte]
  | cons b l ih =>
    cases i with
    | zero => cases b <;> simp [flagByte, Nat.testBit_zero]
    | succ i =>
      rw [flagByte, Nat.testBit_succ, show (b.toNat + 2 * flagByte l) / 2 = flagByte l by cases b <;> simp only [Bool.toNat_false, Bool.toNat_true] <;> omega, ih]
      rfl

theorem flagByte_lt (l : List Bool) : flagByte l < 2 ^ l.length := by
  induction l with
  | nil => simp [flagByte]
  | cons b l ih => rw [flagByte, List.length_cons, Nat.pow_succ]; cases b <;> simp only [Bool.toNat_false, Bool.toNat_true] <;> omega

theorem Channel.outcomeCause_iff (c : Channel) : c.outcomeCause = true ↔
    c.control.outcome = .untested ∨ c.control.outcome = .failed ∨ c.control.outcome = .aborted := by
  unfold Channel.outcomeCause
  cases c.control.outcome <;> simp

theorem Channel.anomalyCause_iff (c : Channel) : c.anomalyCause = true ↔
    c.baselines.heldOff < c.path.anomalies.heldOff ∨ c.baselines.intrusions < c.path.anomalies.intrusions
      ∨ c.baselines.maskedWrites < c.path.anomalies.maskedWrites ∨ c.baselines.unopened < c.path.anomalies.unopened
      ∨ c.baselines.overruns < c.path.anomalies.overruns := by
  simp [Channel.anomalyCause, or_assoc]

theorem State.attention_iff (s : State) : s.attention = true ↔ s.loader.phase = .finished ∧ (s.loader.status ≠ .good
    ∨ ∃ ch : Chan, s.chan[ch.val].outcomeCause = true ∨ s.chan[ch.val].anomalyCause = true) := by
  simp [State.attention, State.imageCause]

theorem State.outcomeCauses_lt (s : State) : s.outcomeCauses < 32 := flagByte_lt _

theorem State.anomalyCauses_lt (s : State) : s.anomalyCauses < 16 := flagByte_lt _

/-- The flag of a channel in a list of four. -/
theorem getD_finRange_map (f : Chan → Bool) (ch : Chan) : ((List.finRange 4).map f).getD ch.val false = f ch := by
  simp [List.getD_eq_getElem?_getD]

theorem State.outcomeCauses_channel (s : State) (ch : Chan) :
    s.outcomeCauses.testBit (1 + ch.val) = s.chan[ch.val].outcomeCause := by
  rw [State.outcomeCauses, flagByte_testBit, Nat.add_comm, List.getD_cons_succ]
  exact getD_finRange_map _ ch

theorem State.outcomeCauses_image (s : State) : s.outcomeCauses.testBit 0 = true ↔ s.loader.status ≠ .good := by
  rw [State.outcomeCauses, flagByte_testBit]
  simp [State.imageCause]

theorem State.anomalyCauses_channel (s : State) (ch : Chan) :
    s.anomalyCauses.testBit ch.val = s.chan[ch.val].anomalyCause := by
  rw [State.anomalyCauses, flagByte_testBit]
  exact getD_finRange_map _ ch

theorem State.quiet_statusReply (s : State) : s.quiet.statusReply = s.statusReply := by
  have hchan (ch : Chan) : s.quiet.chan[ch.val].outcomeCause = s.chan[ch.val].outcomeCause
      ∧ s.quiet.chan[ch.val].anomalyCause = s.chan[ch.val].anomalyCause := by
    rw [State.quiet_chan]
    exact ⟨rfl, rfl⟩
  simp only [State.statusReply, State.outcomeCauses, State.anomalyCauses, State.imageCause, Fin.getElem_fin, State.quiet_control,
    State.quiet_loader, hchan]

/-- The two bytes of a channel in GET STATUS. -/
def Channel.statusBytes (c : Channel) : List Byte := numberBytes 1 c.control.state.code ++ numberBytes 1 c.control.outcome.code

theorem State.statusReply_eq (s : State) : s.statusReply = statusOk :: (numberBytes 1 s.loader.status.code
    ++ ((List.finRange 4).flatMap (fun ch : Chan => s.chan[ch.val].statusBytes)
      ++ (numberBytes 1 s.outcomeCauses ++ numberBytes 1 s.anomalyCauses))) := by
  simp only [State.statusReply, List.cons_append, List.append_assoc, Channel.statusBytes, Fin.getElem_fin]

theorem statusBytes_length (c : Channel) : c.statusBytes.length = 2 := by simp [Channel.statusBytes]

theorem State.statusBlocks_length (s : State) :
    ((List.finRange 4).flatMap fun ch : Chan => s.chan[ch.val].statusBytes).length = 8 := by
  rw [flatMap_length_const (k := 2) _ _ fun _ => statusBytes_length _, List.length_finRange]

theorem ChannelState.code_lt (x : ChannelState) : x.code < 256 ^ 1 := by cases x <;> decide

theorem ImageStatus.code_lt (x : ImageStatus) : x.code < 256 ^ 1 := by cases x <;> decide

/-- The bytes of a channel in GET STATUS. -/
theorem State.statusReply_channel (s : State) (ch : Chan) :
    byteAt s.statusReply (2 + 2 * ch.val) = s.chan[ch.val].control.state.code
      ∧ byteAt s.statusReply (3 + 2 * ch.val) = s.chan[ch.val].control.outcome.code := by
  obtain ⟨rest, hrest⟩ := fieldAt_block (k := 2) (fun ch : Chan => s.chan[ch.val].statusBytes) (List.finRange 4)
    (fun _ _ => statusBytes_length _) (j := ch.val) (x := ch) (by simp)
  have hat (i : Nat) (hi : i < 2) : byteAt s.statusReply (2 + 2 * ch.val + i)
      = fieldAt (s.chan[ch.val].statusBytes ++ rest) i 1 := by
    rw [← hrest, ← fieldAt_one, State.statusReply_eq, fieldAt_cons_pos _ _ _ (by omega), fieldAt_skip _ _ _ _ (by omega),
      fieldAt_one, byteAt_append_left _ _ (by rw [State.statusBlocks_length]; omega), fieldAt_one]
    exact congrArg (byteAt _) (by omega)
  refine ⟨(hat 0 (by decide)).trans ?_, ?_⟩
  · rw [Channel.statusBytes, List.append_assoc, fieldAt_number _ (ChannelState.code_lt _)]
  · rw [show 3 + 2 * ch.val = 2 + 2 * ch.val + 1 by omega, hat 1 (by decide), Channel.statusBytes, List.append_assoc,
      fieldAt_skip _ _ _ _ (Nat.le_refl 1), fieldAt_number _ (RunOutcome.code_lt _)]

/-- The cause bytes of GET STATUS. -/
theorem State.statusReply_causes (s : State) :
    byteAt s.statusReply 10 = s.outcomeCauses ∧ byteAt s.statusReply 11 = s.anomalyCauses := by
  have houtcome : s.outcomeCauses < 256 ^ 1 := Nat.lt_trans s.outcomeCauses_lt (by decide)
  have hanomaly : s.anomalyCauses < 256 ^ 1 := Nat.lt_trans s.anomalyCauses_lt (by decide)
  rw [← List.append_nil s.statusReply, ← fieldAt_one, ← fieldAt_one, State.statusReply_eq]
  simp only [List.cons_append, List.append_assoc, fieldAt_cons_pos, fieldAt_skip, fieldAt_skipBlock _ _ s.statusBlocks_length,
    Nat.reduceLeDiff, Nat.reduceSub, Nat.le_refl, fieldAt_number _ houtcome, fieldAt_number _ hanomaly, and_self]

/-- Settles O10. -/
theorem getStatusReportsStatesAndCauses : Obligations.GetStatusReportsStatesAndCauses := by
  refine ⟨fun s => ?_, ⟨rfl, rfl, rfl, rfl, fun _ => rfl, fun _ => ⟨rfl, rfl⟩, fun _ _ => rfl, fun _ => rfl, rfl, rfl, rfl, rfl⟩,
    fun arg s hf => ?_⟩
  · simp only [State.attention_iff, Channel.outcomeCause_iff, Channel.anomalyCause_iff, or_assoc, Fin.getElem_fin]
  · have hexec : exec (.getStatus arg) s = .next (s.quiet.setReply s.statusReply) := by
      rw [← State.quiet_statusReply]
      exact congrArg _ (State.quiet_maintenance _ hf)
    obtain ⟨houtcome, hanomaly⟩ := s.statusReply_causes
    refine ⟨_, hexec, ?_, rfl, ?_, s.statusReply_channel, ?_, fun ch => ?_, fun ch => ?_, ?_, ?_⟩
    · rw [State.statusReply_eq, List.length_cons, List.length_append, List.length_append, State.statusBlocks_length,
        List.length_append, numberBytes_length, numberBytes_length, numberBytes_length]
    · rw [← fieldAt_one, State.statusReply_eq, fieldAt_cons_pos _ _ _ (Nat.le_refl 1), fieldAt_number _ (ImageStatus.code_lt _)]
    · rw [houtcome, State.outcomeCauses_image]
    · rw [houtcome, State.outcomeCauses_channel, Channel.outcomeCause_iff]
      rfl
    · rw [hanomaly, State.anomalyCauses_channel, Channel.anomalyCause_iff]
      rfl
    · rw [houtcome]
      exact s.outcomeCauses_lt
    · rw [hanomaly]
      exact s.anomalyCauses_lt

end Sys2Proof.Machine

/-! PROOFS. The resets and the loads that fail (R22, R23, R146, R159, R160, R162): O3 to O6. -/

namespace Sys2Proof.Machine

/-! ## Resets -/

theorem reset_atPowerOn (q : List Instr) : (State.reset.setPending q).AtPowerOn := by
  have hready (ch : Chan) : (State.reset.setPending q).ready ch = false := by
    rw [State.ready, Fin.getElem_fin, State.setPending_chan, State.reset_chan]
    rfl
  refine ⟨fun i => State.reset_table i, fun i => by simp [State.reset], fun ch => ?_, rfl, fun ch => ?_, rfl, rfl, rfl, rfl, rfl, rfl,
    rfl, rfl, rfl, rfl, ?_, rfl, rfl⟩
  · simp only [Fin.getElem_fin, State.setPending_chan, State.reset_chan]
    refine ⟨rfl, rfl, rfl, rfl, rfl, rfl, rfl, rfl, rfl, rfl, rfl, rfl, rfl, rfl, rfl, rfl, rfl, rfl, rfl, rfl, rfl, rfl, rfl, rfl,
      rfl, rfl, rfl, rfl, rfl, rfl, rfl, rfl, rfl, rfl, rfl, rfl, rfl, rfl, rfl, rfl, rfl, fun bank j st h => ?_, fun p => ?_, rfl,
      rfl, hready ch⟩
    · rw [Channel.reset, ChannelAllocation.reset_reserve] at h
      cases h
    · simp [Channel.reset]
  · constructor <;> simp [State.reset, Arbiter.reset]
  · rw [← Bool.not_eq_true, State.attention_iff]
    exact fun h => absurd h.1 nofun

/-- Settles O3. -/
theorem powerOnResetValues : Obligations.PowerOnResetValues :=
  ⟨reset_atPowerOn [], rfl, fun s => ⟨_, rfl, reset_atPowerOn s.pending, rfl⟩⟩

/-- Settles O4. -/
theorem warmRestartHoldsOverCandidates : Obligations.WarmRestartHoldsOverCandidates := by
  intro s
  have hentry (i : Fin 64) : s.warm.table[i] = s.warmEntry s.table[i.val] := State.warm_entry s i
  have hchan (ch : Chan) : s.warm.chan[ch] = s.chan[ch.val].warm := State.warm_chan s ch
  refine ⟨s.warm, rfl, fun ch h => ?_, fun ch h => ?_, fun i r hr h => ⟨?_, rfl⟩, fun i h => ?_, fun i => by simp [State.warm],
    rfl, rfl, rfl, rfl, rfl, rfl⟩
  · rw [hchan, Channel.warm, if_pos (by simpa using h)]
    rfl
  · rw [hchan, Channel.warm, if_neg (by simpa using h)]
  · rw [Fin.getElem_fin] at hr
    rw [hentry, State.warmEntry]
    simp only [hr]
    exact if_pos h
  · rw [hentry, State.warmEntry]
    rw [Fin.getElem_fin] at h
    cases hr : s.table[i.val].repair? with
    | none => rfl
    | some r => exact if_neg (by simpa using h r hr)

/-! ## Loads that fail -/

theorem State.quiet_loadFails (s : State) (status : ImageStatus) : s.LoadFails status (s.quiet.loadFailed status) := by
  have h := s.quiet.loadFailed_failsLoad status
  refine ⟨h.loader, fun ch => ?_, fun i => ?_, h.spare, h.store, h.arbiter, h.allocator, h.reply, h.spiOut, h.pending⟩
  · exact (h.chan ch).trans (by rw [State.quiet_chan]; rfl)
  · refine (h.entry i).trans ?_
    rw [State.quiet_table, Fin.getElem_fin, Entry.without]
    cases s.table[i.val] <;> rfl

/-- The header's three checks, in their order (R159). -/
theorem headerFailure_eq (header : List Byte) : headerFailure header =
    if ¬ (byteAt header 0 = 0x43 ∧ byteAt header 1 = 0x4A) then some .absent
    else if byteAt header 2 ≠ 1 then some .unsupported
    else if number16 header 4 < 64 ∨ 4096 < number16 header 4 then some .damaged else none := by
  simp only [headerFailure, not_and_or]
  rfl

/-- Settles O5. -/
theorem headerCheckKeepsOrEndsLoad : Obligations.HeaderCheckKeepsOrEndsLoad := by
  intro header s hp hi hl identified length
  have harrives : s.headerArrives header = true := by
    simp [State.headerArrives, hp, hi, hl, Config.headerSize]
  have hexec : exec (.headerCheck header) s = .next (s.quiet.checkHeader header) := congrArg _ (if_pos harrives)
  have hfails {status : ImageStatus} (h : headerFailure header = some status) :
      ∃ t : State, exec (.headerCheck header) s = .next t ∧ s.LoadFails status t := by
    refine ⟨_, hexec, ?_⟩
    rw [State.checkHeader]
    simp only [h]
    exact s.quiet_loadFails status
  rw [headerFailure_eq] at hfails
  refine ⟨fun h0 h2 hmin hmax => ?_, fun h0 => hfails (if_pos h0), fun h0 h2 => hfails ?_, fun h0 h2 hlen => hfails ?_⟩
  · have hnone : headerFailure header = none := by
      rw [headerFailure_eq, if_neg (not_not.2 h0), if_neg (not_not.2 h2), if_neg (by omega)]
    rw [hexec, State.checkHeader]
    simp only [hnone]
    rfl
  · rw [if_neg (not_not.2 h0), if_pos h2]
  · rw [if_neg (not_not.2 h0), if_neg (not_not.2 h2), if_pos hlen]

theorem crcStep_eq (c : BitVec 32) : crcStep c = if c.getLsbD 0 then (c >>> 1) ^^^ 0xEDB88320#32 else c >>> 1 := by
  unfold crcStep
  split_ifs
  · rfl
  · rw [BitVec.xor_zero]

theorem crcFrom_eq (bytes : List Byte) (c : BitVec 32) : crcFrom c bytes = bytes.foldl (fun c b =>
    (List.range 8).foldl (fun c _ => if c.getLsbD 0 then (c >>> 1) ^^^ 0xEDB88320#32 else c >>> 1)
      (c ^^^ b.setWidth 32)) c := by
  induction bytes generalizing c with
  | nil => rfl
  | cons b bytes ih =>
    rw [crcFrom, ih, List.foldl_cons]
    simp only [crcSteps, crcStep_eq, List.range_succ, List.range_zero, List.nil_append, List.cons_append, List.foldl_cons,
      List.foldl_nil]

/-- The length field of an image is that of its header. -/
theorem imageLength_append (header rest : List Byte) (h : header.length = 16) :
    imageLength (header ++ rest) = imageLength header := by
  rw [imageLength, imageLength, number16, number16, byteAt_append_left _ _ (by omega), byteAt_append_left _ _ (by omega)]

/-- The rest of the image that makes its length is checked. -/
theorem exec_imageCheck {s : State} {rest : List Byte} (order : List Chan) (hp : s.loader.phase = .reading)
    (hl : s.loader.image.length = 16) (hi : (s.loader.image ++ rest).length = number16 (s.loader.image ++ rest) 4) :
    exec (.imageCheck rest order) s = .next (s.quiet.checkImage (s.loader.image ++ rest) order) := by
  refine congrArg _ (if_pos ?_)
  rw [State.imageArrives, ← imageLength_append _ rest hl, imageLength, ← hi]
  simp [hp, hl, Config.headerSize]

theorem countsAgree_iff (image : List Byte) : countsAgree image = true ↔
    byteAt image 8 ≤ 64 ∧ byteAt image 9 ≤ 8 ∧ byteAt image 10 ≤ 64
      ∧ number16 image 4 = 16 + 192 + 12 * byteAt image 8 + 72 * byteAt image 9 + 8 * byteAt image 10 + 4 := by
  simp only [countsAgree, Bool.and_eq_true, decide_eq_true_eq, beq_iff_eq, and_assoc]
  rfl

theorem wholeStatus_good_iff (image : List Byte) : wholeStatus image = .good ↔
    crc32 (image.take (number16 image 4 - 4)) = BitVec.ofNat 32 (number32 image (number16 image 4 - 4))
      ∧ byteAt image 8 ≤ 64 ∧ byteAt image 9 ≤ 8 ∧ byteAt image 10 ≤ 64
      ∧ number16 image 4 = 16 + 192 + 12 * byteAt image 8 + 72 * byteAt image 9 + 8 * byteAt image 10 + 4 := by
  rw [← countsAgree_iff, wholeStatus]
  split_ifs with h
  · exact iff_of_true rfl h
  · exact iff_of_false nofun h

theorem wholeStatus_damaged {image : List Byte} (h : wholeStatus image ≠ .good) : wholeStatus image = .damaged := by
  rw [wholeStatus] at h ⊢
  split_ifs at h ⊢
  · exact absurd rfl h
  · rfl

/-- Settles O6. -/
theorem damagedImageEndsLoad : Obligations.DamagedImageEndsLoad := by
  refine ⟨fun bytes => congrArg (~~~ ·) (crcFrom_eq bytes _), by decide +kernel, fun rest order s => ?_⟩
  intro image length hp hl hi hbad
  have hstatus : wholeStatus image = .damaged := wholeStatus_damaged fun h => by
    obtain ⟨hcrc, hprograms, hpatterns, hcarried, hlength⟩ := (wholeStatus_good_iff image).1 h
    obtain hbad | hbad | hbad | hbad | hbad := hbad
    · exact hbad hcrc
    · omega
    · omega
    · omega
    · exact hbad hlength
  refine ⟨_, exec_imageCheck order hp hl hi, ?_⟩
  rw [State.checkImage, if_neg (by rw [hstatus]; decide), hstatus]
  exact s.quiet_loadFails .damaged

end Sys2Proof.Machine

/-! PROOFS. The engine's timers, tokens and elements (sections 5.2, 5.4, 6.2 to 6.6): O30 to O35 and O38. -/

namespace Sys2Proof.Machine

/-! ## Timers -/

theorem State.serviceRefresh_eq (s : State) (ch : Chan) : s.serviceRefresh ch = s.onChan ch fun c =>
    { c with
      pins := { c.pins with toDevice := c.pins.toDevice ++ [.closeAll, .refresh] }
      engine := { c.engine with
        banks := allClosed, refreshOwed := false
        counters := { c.engine.counters with refreshes := Counter.inc c.engine.counters.refreshes } } } := by
  unfold State.serviceRefresh State.engineCloseAll State.issueRefresh
  simp only [State.drive_eq, State.onEngine_eq, State.onChan_onChan]
  exact State.onChan_congr _ _ (by simp only [List.append_assoc, List.cons_append, List.nil_append])

/-- Settles O34. -/
theorem holdExpiryLeavesHold : Obligations.HoldExpiryLeavesHold := by
  intro ch duration run s c hs ht
  have hexec : exec (.holdTimerExpiry ch) s = .next (s.quiet.holdExpiry ch) := rfl
  have hready : s.quiet.chan[ch.val].engine.state = .hold ∧ s.quiet.chan[ch.val].timers.hold.isSome = true := by
    rw [State.quiet_engine, State.quiet_timers]
    exact ⟨hs, (congrArg Option.isSome ht : _).trans rfl⟩
  have hexpiry {refresh : HoldRefresh} (h : elementAt s.store s.chan[ch.val].engine.position = .hold duration refresh) :
      s.quiet.holdExpiry ch = (((s.quiet.onTimers ch fun t => { (t.resume) with hold := none }).recover ch refresh).takeElementAt
        ch (s.chan[ch.val].engine.position + 1)).choose := by
    rw [State.holdExpiry, Fin.getElem_fin, if_pos hready]
    simp only [State.quiet_store, State.quiet_engine, h]
  refine ⟨fun h => ?_, fun h => ?_⟩
  · rw [hexec, hexpiry h]
    refine congrArg (fun t : State => Host.Outcome.next (t.takeElementAt ch (s.chan[ch.val].engine.position + 1)).choose) ?_
    rw [State.recover]
    refine State.onChan_congr _ _ ?_
    simp only [Timers.resume]
    split_ifs <;> rfl
  · rw [hexec, hexpiry h]
    refine congrArg (fun t : State => Host.Outcome.next (t.takeElementAt ch (s.chan[ch.val].engine.position + 1)).choose) ?_
    rw [State.recover, State.serviceRefresh_eq]
    simp only [State.onEngine_eq, State.onTimers_eq, State.onChan_onChan]
    refine State.onChan_quiet s ch ?_
    simp only [Timers.resume]
    split_ifs <;> rfl

/-- Settles O35. -/
theorem refreshExpiryIsOwedOrServiced : Obligations.RefreshExpiryIsOwedOrServiced := by
  intro ch s e exec'
  have hexec : exec' = .next (s.quiet.refreshExpiry ch) := rfl
  rw [hexec]
  have howed (h : s.chan[ch.val].timers.refreshMode = .running) : s.quiet.refreshExpiry ch
      = (s.quiet.onChan ch fun c => { c with
          timers := { c.timers with refreshElapsed := 0 }, engine := { c.engine with refreshOwed := true } }).refreshDue ch := by
    rw [State.refreshExpiry, if_pos (by rw [Fin.getElem_fin, State.quiet_timers, h]), State.onEngine_eq, State.onTimers_eq,
      State.onChan_onChan]
  refine ⟨fun h => congrArg _ (if_neg (by rw [Fin.getElem_fin, State.quiet_timers]; exact h)), fun h he ha => ?_, fun h he => ?_⟩
  · rw [howed h, State.refreshDue]
    simp only [Fin.getElem_fin, State.onChan_same, State.quiet_engine]
    rw [show s.chan[ch.val].engine.state = .sweep from he, show s.chan[ch.val].engine.awaitingReturn = false from ha]
    rfl
  · rw [howed h, State.refreshDue]
    simp only [Fin.getElem_fin, State.onChan_same, State.quiet_engine]
    have hserviced (hn : s.chan[ch.val].engine.state ≠ .sweep) : (s.quiet.onChan ch fun c => { c with
          timers := { c.timers with refreshElapsed := 0 }, engine := { c.engine with refreshOwed := true } }).serviceRefresh ch
        = s.quiet.onChan ch fun c => { c with
            pins := ⟨[.closeAll, .refresh], []⟩
            timers := { c.timers with refreshElapsed := 0 }
            engine := { c.engine with
              refreshOwed := false, banks := allClosed
              awaitingReturn := if c.engine.state = .sweep then false else c.engine.awaitingReturn
              counters := { c.engine.counters with refreshes := Counter.inc c.engine.counters.refreshes } } } := by
      rw [State.serviceRefresh_eq, State.onChan_onChan]
      exact State.onChan_quiet s ch (by simp only [hn, if_false, List.nil_append])
    obtain he | he | he | he | ⟨he, ha⟩ := he
    · rw [show s.chan[ch.val].engine.state = .waitToken from he] at hserviced ⊢
      exact congrArg _ (hserviced nofun)
    · rw [show s.chan[ch.val].engine.state = .stall from he] at hserviced ⊢
      exact congrArg _ (hserviced nofun)
    · rw [show s.chan[ch.val].engine.state = .hold from he] at hserviced ⊢
      exact congrArg _ (hserviced nofun)
    · rw [show s.chan[ch.val].engine.state = .drain from he] at hserviced ⊢
      exact congrArg _ (hserviced nofun)
    · rw [show s.chan[ch.val].engine.state = .sweep from he, show s.chan[ch.val].engine.awaitingReturn = true from ha]
      refine congrArg Host.Outcome.next ?_
      simp only [if_true, State.serviceRefresh_eq, State.onEngine_eq, State.onChan_onChan]
      have hstate : s.chan[ch.val].engine.state = .sweep := he
      exact State.onChan_quiet s ch (by simp only [hstate, if_true, List.nil_append])

/-! ## Tokens -/

/-- Settles O33. -/
theorem tokensAreGrantedInCyclicOrder : Obligations.TokensAreGrantedInCyclicOrder := by
  intro ch s granted sweeping
  have hsweep (ch : Chan) (a : Arbiter) (m : March) (h : elementAt s.store s.chan[ch.val].engine.position = .march m) :
      (s.setArbiter a).startSweep ch = sweeping ch m (s.setArbiter a) := by
    rw [State.startSweep_march (s := s.setArbiter a) ch m (by rw [State.setArbiter_store, State.setArbiter_chan]; exact h)]
    refine State.onChan_congr _ _ ?_
    rfl
  refine ⟨fun m h hk => ?_, fun hk => if_neg (by omega), fun hh => ⟨fun k m hw hj hm => ?_, fun h => ?_⟩⟩
  · rw [State.requestToken, if_pos hk]
    exact hsweep ch _ m h
  · have hchosen : (s.arbiter.drop ch).chosen = some (Fin.ofNat 4 (s.arbiter.lastGranted.val + 1 + k.val)) :=
      nextInCycle_eq_some k.isLt hw fun j hlt => hj ⟨j, by omega⟩ hlt
    rw [State.releaseToken_pass s ch _ hh hchosen]
    exact hsweep _ _ m hm
  · exact State.releaseToken_free s ch hh (nextInCycle_eq_none h)

/-! ## The waits at ANALYSE and END -/

theorem State.drained_iff (s : State) (ch : Chan) :
    s.drained ch = true ↔ s.chan[ch.val].queue.records = [] ∧ s.allocator.item.serves ch = false := by
  simp [State.drained]

/-- Settles O38. -/
theorem drainConditionEndsTheWait : Obligations.DrainConditionEndsTheWait := by
  intro ch s c element
  refine ⟨fun h => ?_, fun hs hq hserves hr ha => ?_⟩
  · have hno : ¬ (s.chan[ch.val].engine.state = .drain ∧ s.drained ch = true ∧ s.chan[ch.val].allocation.request = none
        ∧ ¬ s.allocator.item.analyses ch = true) := by
      rintro ⟨hs, hd, -⟩
      obtain ⟨hq, hserves⟩ := (s.drained_iff ch).1 hd
      obtain h | h | h := h
      · exact h hs
      · exact h hq
      · rw [hserves] at h; cases h
    exact if_neg hno
  · have hd : s.drained ch = true := (s.drained_iff ch).2 ⟨hq, hserves⟩
    have hyes : s.chan[ch.val].engine.state = .drain ∧ s.drained ch = true ∧ s.chan[ch.val].allocation.request = none
        ∧ ¬ s.allocator.item.analyses ch = true := ⟨hs, hd, hr, by rw [ha]; exact nofun⟩
    rw [State.drainTest, Fin.getElem_fin]
    simp only [if_pos hyes]
    refine ⟨fun h => ?_, fun h hp hc => ?_⟩
    · obtain h | ⟨h, hp⟩ := h
      · rw [show elementAt s.store s.chan[ch.val].engine.position = .analyse from h]
        rfl
      · rw [show elementAt s.store s.chan[ch.val].engine.position = .finish from h,
          show s.chan[ch.val].engine.phase = .raw from hp]
        rfl
    · rw [show elementAt s.store s.chan[ch.val].engine.position = .finish from h,
        show s.chan[ch.val].engine.phase = .verify from hp]
      exact (s.finishRun_eq ch).trans (if_pos hc)

/-! ## Taking an element -/

/-- The state in which the element of an index is taken. -/
theorem State.takeElementAt_eq (s : State) (ch : Chan) (i : Nat) :
    s.takeElementAt ch i = State.takeElement ch 65 (s.onEngine ch fun e => { e with position := i }) := rfl

theorem State.takeElementAt_of {s : State} {ch : Chan} {i : Nat} {x : Element} (h : elementAt s.store i = x) :
    elementAt (s.onEngine ch fun e => { e with position := i }).store
      (s.onEngine ch fun e => { e with position := i }).chan[ch.val].engine.position = x := by
  rw [State.onEngine_store, State.onEngine_same]
  exact h

theorem State.takeElement_march {s : State} {ch : Chan} {m : March} {chain : List Nat} (n : Nat)
    (h : elementAt s.store s.chan[ch.val].engine.position = .march m) (hc : s.chan[ch.val].currentChain = some chain) :
    State.takeElement ch (n + 1) s = s.beginChain ch m chain := by
  rw [State.takeElement]
  simp only [Fin.getElem_fin, h, hc]

theorem State.takeElement_hold {s : State} {ch : Chan} {duration : Nat} {refresh : HoldRefresh} (n : Nat)
    (h : elementAt s.store s.chan[ch.val].engine.position = .hold duration refresh) :
    State.takeElement ch (n + 1) s = s.enterHold ch duration refresh := by
  rw [State.takeElement]
  simp only [Fin.getElem_fin, h]

theorem State.takeElement_analyse {s : State} {ch : Chan} (n : Nat)
    (h : elementAt s.store s.chan[ch.val].engine.position = .analyse) :
    State.takeElement ch (n + 1) s = s.enterDrain ch [.testing] := by
  rw [State.takeElement]
  simp only [Fin.getElem_fin, h]

theorem State.takeElement_finish {s : State} {ch : Chan} (n : Nat)
    (h : elementAt s.store s.chan[ch.val].engine.position = .finish) :
    State.takeElement ch (n + 1) s = s.enterDrain ch [.testing, .verifying] := by
  rw [State.takeElement]
  simp only [Fin.getElem_fin, h]

theorem State.takeElement_repeated {s : State} {ch : Chan} {k l : Nat} (n : Nat)
    (h : elementAt s.store s.chan[ch.val].engine.position = .repeated k l) :
    State.takeElement ch (n + 1) s =
      if k = 0 ∨ l = 0 then State.takeElement ch n (s.onEngine ch fun e => { e with position := e.position + 1 })
      else if s.chan[ch.val].engine.pass < l then
        State.takeElement ch n (s.onEngine ch fun e => { e with pass := e.pass + 1, position := e.position - k })
      else State.takeElement ch n (s.onEngine ch fun e => { e with pass := 0, position := e.position + 1 }) := by
  rw [State.takeElement]
  simp only [Fin.getElem_fin, h]

/-- The chain of an index, as the engine at it sees it. -/
theorem Channel.currentChain_of {c : Channel} {plan : Plan} {chain : List Nat} (hp : c.setup.plan = some plan)
    (hc : plan.chainAt c.engine.position = some chain) : c.currentChain = some chain := by
  rw [Channel.currentChain, hp]
  exact hc

theorem Counter.add_ite {w : Nat} (c : Counter w) (p : Prop) [Decidable p] (n : Nat) :
    Counter.add c (if p then n else 0) = if p then Counter.add c n else c := by
  split_ifs
  · rfl
  · exact Counter.add_zero c

/-- Settles O31. -/
theorem takingMarchBeginsItsChain : Obligations.TakingMarchBeginsItsChain := by
  intro ch i m plan chain s h hp hc
  have hchain : (s.onEngine ch fun e => { e with position := i }).chan[ch.val].currentChain = some chain := by
    rw [State.onEngine_same]
    exact Channel.currentChain_of hp hc
  rw [State.takeElementAt_eq, State.takeElement_march 64 (State.takeElementAt_of h) hchain, State.beginChain]
  refine congrArg (State.requestToken · ch) ?_
  simp only [State.serviceOwed_eq, State.onEngine_eq, State.onChan_onChan, Fin.getElem_fin, State.onChan_same]
  refine State.onChan_congr _ _ ?_
  simp only [Channel.fallbacksOf, Counter.add_ite, Fin.getElem_fin]

/-- The engine's REPEAT at an index: the place it goes to, when that is no REPEAT. -/
theorem State.takeElementAt_goTo {s : State} {ch : Chan} {u : State} {pass target : Nat}
    (hu : u = (s.onEngine ch fun e => { e with pass := pass }).onEngine ch fun e => { e with position := target })
    (h : ∀ n k : Nat, elementAt s.store target ≠ .repeated n k) :
    State.takeElement ch 64 u = (s.onEngine ch fun e => { e with pass := pass }).takeElementAt ch target := by
  subst hu
  refine State.takeElement_fuel ch 63 64 _ fun n k => ?_
  rw [State.onEngine_same]
  exact h n k

/-- Settles O32. -/
theorem takingOtherElements : Obligations.TakingOtherElements := by
  intro ch i s
  refine ⟨fun duration refresh st h hst => ?_, fun n k h => ?_, fun x h hx => ?_⟩
  · rw [State.takeElementAt_eq, State.takeElement_hold 64 (State.takeElementAt_of h), State.enterHold_eq, State.onEngine_eq,
      State.onChan_onChan]
    refine State.onChan_congr _ _ ?_
    rw [Fin.getElem_fin] at hst
    simp only [Channel.holdDuration, hst, decide_eq_true_eq]
  · intro e goTo
    have htake := State.takeElement_repeated (s := s.onEngine ch fun e => { e with position := i }) (ch := ch) 64
      (State.takeElementAt_of h)
    refine ⟨fun hnk hgo => ?_, fun hn hk hpass hgo => ?_, fun hn hk hpass hgo => ?_⟩
    · rw [State.takeElementAt_eq, htake, if_pos hnk]
      refine State.takeElementAt_goTo ?_ hgo
      simp only [State.onEngine_eq, State.onChan_onChan]
      exact State.onChan_congr _ _ rfl
    · rw [State.takeElementAt_eq, htake, if_neg (by omega), if_pos (by rw [State.onEngine_same]; exact hpass)]
      refine State.takeElementAt_goTo ?_ hgo
      simp only [State.onEngine_eq, State.onChan_onChan]
      exact State.onChan_congr _ _ rfl
    · rw [State.takeElementAt_eq, htake, if_neg (by omega), if_neg (by rw [State.onEngine_same]; exact Nat.not_lt.2 hpass)]
      refine State.takeElementAt_goTo ?_ hgo
      simp only [State.onEngine_eq, State.onChan_onChan]
  · obtain rfl | rfl := hx
    · rw [State.takeElementAt_eq, State.takeElement_analyse 64 (State.takeElementAt_of h), State.enterDrain_eq, State.onEngine_eq,
        State.onChan_onChan]
      refine congrArg (State.drainTest · ch) (State.onChan_congr _ _ ?_)
      simp
    · rw [State.takeElementAt_eq, State.takeElement_finish 64 (State.takeElementAt_of h), State.enterDrain_eq, State.onEngine_eq,
        State.onChan_onChan]
      refine congrArg (State.drainTest · ch) (State.onChan_congr _ _ ?_)
      simp

/-! ## The end of an operation -/

/-- Settles O30. -/
theorem operationDoneAdvancesTheSweep : Obligations.OperationDoneAdvancesTheSweep := by
  intro ch chain last w s hc hw ops e
  rw [Fin.getElem_fin] at hc hw
  have hops : s.currentOps ch = ops := by
    rw [State.currentOps]
    simp only [Fin.getElem_fin, hc]
    rfl
  refine ⟨fun h => ?_, fun h hlt => ?_, fun h hle => ?_⟩
  · rw [State.operationDone, hops, if_pos h]
  · rw [State.operationDone, hops, if_neg (Nat.not_lt.2 h), State.advance]
    simp only [Fin.getElem_fin, hw]
    refine (if_pos (show s.chan[ch.val].engine.generator.position + 1 < w.size from hlt)).trans ?_
    exact State.onChan_congr _ _ (by rw [← hw])
  · rw [State.operationDone, hops, if_neg (Nat.not_lt.2 h), State.advance]
    simp only [Fin.getElem_fin, hw]
    rw [if_neg (show ¬ s.chan[ch.val].engine.generator.position + 1 < w.size from Nat.not_lt.2 hle), State.endChain, hops]
    simp only [Fin.getElem_fin, hc, List.getLastD_concat]
    rfl

end Sys2Proof.Machine

/-! PROOFS. The engine at its WRITE and READ operations (R85 to R90): O28 and O29. -/

namespace Sys2Proof.Machine

/-- The engine of a channel at an address, with the row open (steps 1 and 2 of R85). -/
def State.atTarget (s : State) (ch : Chan) (a : Address) : State :=
  s.quiet.onChan ch fun c => { c with
    pins := ⟨s.chan[ch.val].engine.commandsAt a (s.enginePhysicalRow ch a), []⟩
    engine := s.chan[ch.val].engine.atAddress a (s.enginePhysicalRow ch a) }

theorem State.quiet_openTarget (s : State) (ch : Chan) (a : Address) :
    (s.quiet.serviceOwed ch).openTarget ch a = s.atTarget ch a := by
  have hrow : s.quiet.enginePhysicalRow ch a = s.enginePhysicalRow ch a := by
    rw [State.enginePhysicalRow, State.enginePhysicalRow, Fin.getElem_fin, State.quiet_engine]
    cases s.chan[ch.val].engine.phase with
    | raw => rfl
    | verify => exact State.physicalRow_congr (s := s.quiet) (t := s) ch rfl (State.quiet_setup s ch) _ _ _
  rw [State.openTarget_serviceOwed, hrow, State.quiet_engine]
  exact State.onChan_quiet s ch (by simp only [List.nil_append])

theorem State.atTarget_chan (s : State) (ch : Chan) (a : Address) : (s.atTarget ch a).chan[ch.val] = { s.chan[ch.val] with
    pins := ⟨s.chan[ch.val].engine.commandsAt a (s.enginePhysicalRow ch a), []⟩
    engine := s.chan[ch.val].engine.atAddress a (s.enginePhysicalRow ch a) } := by
  rw [State.atTarget, State.onChan_same, State.quiet_chan]

theorem State.atTarget_expectedWord (s : State) (ch : Chan) (o : Op) (a b : Address) :
    (s.atTarget ch a).expectedWord ch o b = s.expectedWord ch o b :=
  State.expectedWord_congr (s := s.atTarget ch a) (t := s) ch rfl rfl (by rw [State.atTarget_chan]) (by rw [State.atTarget_chan])
    (by rw [State.atTarget_chan]; rfl) (by rw [State.atTarget_chan]; rfl) (by rw [State.atTarget_chan]; rfl) o b

theorem State.atTarget_engineSpare (s : State) (ch : Chan) (a b : Address) :
    (s.atTarget ch a).engineSpare ch b = s.engineSpare ch b := by
  have hphase : (s.atTarget ch a).chan[ch.val].engine.phase = s.chan[ch.val].engine.phase := by
    rw [State.atTarget_chan]
    rfl
  rw [State.engineSpare, State.engineSpare, Fin.getElem_fin, hphase]
  cases s.chan[ch.val].engine.phase with
  | raw => rfl
  | verify => exact State.wordLookup_congr (s := s.atTarget ch a) (t := s) ch rfl (by rw [State.atTarget_chan]) _ _ _ _

theorem State.engineSpare_raw {s : State} {ch : Chan} (h : s.chan[ch.val].engine.phase = .raw) (a : Address) :
    s.engineSpare ch a = none := by
  rw [State.engineSpare, Fin.getElem_fin, h]

theorem State.engineSpare_verify {s : State} {ch : Chan} (h : s.chan[ch.val].engine.phase = .verify) (a : Address) :
    s.engineSpare ch a = s.wordLookup .proving ch a.bank a.row a.column := by
  rw [State.engineSpare, Fin.getElem_fin, h]

/-- The engine is ready for an operation at an address. -/
theorem State.readyOp_of {s : State} {ch : Chan} {element : Nat} {o : Op} {a : Address}
    (hs : s.chan[ch.val].engine.state = .sweep) (hr : s.chan[ch.val].engine.reading = false)
    (ho : s.currentOp ch = some (element, o)) (ha : s.chan[ch.val].address = some a) :
    s.readyOp ch = some (element, o, a) := by
  rw [State.readyOp, Fin.getElem_fin, if_pos ⟨hs, hr⟩, ho, ha]

/-- Settles O28. -/
theorem engineWriteIsIssued : Obligations.EngineWriteIsIssued := by
  intro ch element o a s hs hr ho ha hw e physical word issued
  have hexec : exec (.engineWrite ch) s = .next (s.quiet.doWrite ch o a).choose := by
    show execEngineWrite ch s = _
    rw [execEngineWrite, State.readyOp_of hs hr ho ha]
    exact congrArg _ (if_neg (by rw [hw]; exact nofun))
  have hrow : s.enginePhysicalRow ch a = physical := rfl
  have hissued : ((s.atTarget ch a).drive ch (.write a.bank a.column word allLanes)).onEngine ch (fun e =>
      { e with counters := { e.counters with writes := Counter.inc e.counters.writes } }) = issued := by
    rw [State.atTarget, State.drive_eq, State.onEngine_eq, State.onChan_onChan, State.onChan_onChan]
    exact State.onChan_quiet s ch rfl
  have hwrite : s.quiet.doWrite ch o a = (match s.engineSpare ch a with
      | some place => issued.writeSpare place word allLanes
      | none => issued).operationDone ch := by
    rw [State.doWrite, State.quiet_openTarget, State.issueWrite, State.atTarget_expectedWord, State.atTarget_engineSpare]
    simp only [← hissued] <;> rfl
  rw [hexec, hwrite]
  refine ⟨fun h => ?_, fun h hl => ?_, fun i w h hl => ?_⟩
  · rw [State.engineSpare_raw h]
  · rw [State.engineSpare_verify h, hl]
  · rw [State.engineSpare_verify h, hl]
    simp only [State.writeSpare, mergeLanes_all]
    rfl

/-- Settles O29. -/
theorem engineReadIsIssuedOrStalls : Obligations.EngineReadIsIssuedOrStalls := by
  intro ch element o a s hs hr ho ha hread e physical next exec'
  have hexec : exec' = .next (s.quiet.doRead ch element o a) := by
    show execEngineRead ch s = _
    rw [execEngineRead, State.readyOp_of hs hr ho ha]
    exact congrArg _ (if_pos hread)
  have hqueue : (s.atTarget ch a).chan[ch.val].queue = s.chan[ch.val].queue := by rw [State.atTarget_chan]
  have hout : (s.atTarget ch a).chan[ch.val].engine.outstanding = s.chan[ch.val].engine.outstanding := by
    rw [State.atTarget_chan]
    rfl
  rw [hexec, State.doRead, State.quiet_openTarget]
  simp only [Fin.getElem_fin, hqueue, hout]
  refine ⟨fun h => ?_, fun h hq => ?_, fun h hq => ?_⟩
  · rw [if_pos (show s.chan[ch.val].engine.outstanding.isSome = true from Option.isSome_iff_ne_none.2 h), State.atTarget, State.onEngine_eq, State.onChan_onChan]
    exact congrArg _ (State.onChan_quiet s ch (by simp only [List.append_nil]; rfl))
  · rw [if_neg (by rw [show s.chan[ch.val].engine.outstanding = none from h]; exact nofun),
      if_pos (show Config.failQueueDepth ≤ s.chan[ch.val].queue.records.length from hq), State.atTarget, State.onEngine_eq,
      State.onChan_onChan]
    exact congrArg _ (State.onChan_quiet s ch (by simp only [List.append_nil]; rfl))
  · rw [if_neg (by rw [show s.chan[ch.val].engine.outstanding = none from h]; exact nofun),
      if_neg (show ¬ Config.failQueueDepth ≤ s.chan[ch.val].queue.records.length from Nat.not_le.2 (Nat.lt_succ_of_le hq)),
      State.issueRead, State.atTarget_engineSpare]
    have hcaptured : (s.engineSpare ch a).map (s.atTarget ch a).spareWord = if e.phase = .verify
        then (s.wordLookup .proving ch a.bank a.row a.column).map fun x => s.spare[x.1][x.2] else none := by
      cases hp : s.chan[ch.val].engine.phase with
      | raw => rw [State.engineSpare_raw hp, if_neg nofun]; rfl
      | verify => rw [State.engineSpare_verify hp, if_pos rfl]; rfl
    simp only [hcaptured]
    rw [State.atTarget, State.drive_eq, State.onEngine_eq, State.onChan_onChan, State.onChan_onChan]
    exact congrArg _ (State.onChan_quiet s ch rfl)

end Sys2Proof.Machine

/-! PROOFS. The Repair Allocator: its choice and the classes of a record (R126 to R128), the services that change entries and
reserve rows (R130, R132, R133), and analysis (R136 to R138): O37 and O42 to O44. -/

namespace Sys2Proof.Machine

/-! ## The choice -/

theorem tallyMarks_iff (tally : List TallyEntry) (bank : Bank) (row : Row) : tallyMarks tally bank row = true ↔
    ∃ t ∈ tally, t.bank = bank ∧ t.row = row ∧ t.mustRemap = true := by
  simp [tallyMarks, and_assoc]

theorem State.classify_verify {s : State} {f : FailRecord} (h : f.phase = .verify) : s.classify f = .verify := by
  rw [State.classify, h]

theorem State.classify_raw {s : State} {f : FailRecord} (h : f.phase = .raw) : s.classify f =
    if s.chan[f.channel.val].geometry.rows - s.chan[f.channel.val].geometry.q ≤ f.row.toNat then .reserveRow
    else if (s.wordLookup .proving f.channel f.bank f.row f.column).isSome
        || (s.rowLookup .proving f.channel f.bank f.row).isSome
        || tallyMarks s.chan[f.channel.val].allocation.tally f.bank f.row then .covered
    else .newFail := by
  rw [State.classify, h]
  rfl

theorem State.covered_iff (s : State) (f : FailRecord) : ((s.wordLookup .proving f.channel f.bank f.row f.column).isSome
        || (s.rowLookup .proving f.channel f.bank f.row).isSome
        || tallyMarks s.chan[f.channel.val].allocation.tally f.bank f.row) = true ↔
    s.wordLookup .proving f.channel f.bank f.row f.column ≠ none ∨ s.rowLookup .proving f.channel f.bank f.row ≠ none
      ∨ ∃ t ∈ s.chan[f.channel.val].allocation.tally, t.bank = f.bank ∧ t.row = f.row ∧ t.mustRemap = true := by
  rw [Bool.or_eq_true, Bool.or_eq_true, tallyMarks_iff, Option.isSome_iff_ne_none, Option.isSome_iff_ne_none, or_assoc]

/-- Settles O37. -/
theorem allocatorChoosesInCyclicOrder : Obligations.AllocatorChoosesInCyclicOrder := by
  intro s
  refine ⟨s.choose_busy, fun h => s.choose_idle fun _ c => (Channel.hasWork_eq_false _).2 (h c), fun k => ?_⟩
  intro ch hi hbefore
  have hchoose (hw : s.chan[ch.val].hasWork = true) : s.choose = s.takeWork ch := by
    refine s.choose_next ch hi (nextInCycle_eq_some k.isLt hw fun j hj => ?_)
    exact (Channel.hasWork_eq_false _).2 (hbefore ⟨j, by omega⟩ hj)
  refine ⟨fun f rest h => ?_, fun flag h hr => ?_⟩
  · intro owner covered
    refine ⟨s.classify f, State.classify_verify, fun hp hrow => ?_, fun hp hrow hc => ?_, fun hp hrow hc => ?_, ?_⟩
    · exact (State.classify_raw hp).trans (if_pos hrow)
    · exact (State.classify_raw hp).trans ((if_neg (Nat.not_le.2 hrow)).trans (if_pos ((s.covered_iff f).2 hc)))
    · exact (State.classify_raw hp).trans ((if_neg (Nat.not_le.2 hrow)).trans (if_neg fun e => hc ((s.covered_iff f).1 e)))
    · rw [hchoose (by simp [Channel.hasWork, show s.chan[ch.val].queue.records = f :: rest from h])]
      exact s.takeWork_record ch f rest h
  · rw [hchoose (by simp [Channel.hasWork, show s.chan[ch.val].allocation.request = some flag from hr])]
    exact s.takeWork_analysis ch flag h hr

/-! ## Services that change more than a counter -/

/-- A class whose effects are one update of the channel's allocation in a state with the allocator of the step's. -/
theorem exec_serviceCompletion_served {f : FailRecord} {kind : RecordClass} {s u : State}
    {g : ChannelAllocation → ChannelAllocation} (h : s.allocator.item = .record f kind) (hu : u.allocator = s.allocator)
    (hserve : s.quiet.serveRecord f kind = u.onAllocation f.channel g) :
    exec .serviceCompletion s = .next ((((u.onAllocation f.channel g).setAllocator
      { s.allocator with item := .idle }).drainTest f.channel).choose) := by
  rw [exec_serviceCompletion_record h, hserve, State.idleAllocator_onAllocation, hu]

theorem Entry.release_eq (e : Entry) (p : Repair → Bool) : (match e.repair? with
    | some r => if p r then .free else e
    | none => e) = if (e.repair?.any p) = true then .free else e := by
  cases e.repair? <;> simp

theorem State.releaseWhere_eq (s : State) (p : Repair → Bool) :
    s.releaseWhere p = s.mapTable fun _ e => if (e.repair?.any p) = true then .free else e := by
  unfold State.releaseWhere
  exact congrArg (State.mapTable s) (funext fun _ => funext fun e => Entry.release_eq e p)

theorem Entry.any_holdsReserve (e : Entry) (ch : Chan) (bank : Bank) (reserve : Nat) :
    (e.repair?.any fun r => r.holdsReserve ch bank reserve) = e.holdsReserve ch bank reserve := by
  unfold Entry.holdsReserve
  cases e.repair? <;> rfl

theorem State.countRaw_eq (s : State) (f : FailRecord) (n : Nat) : s.countRaw f n = s.onAllocation f.channel fun a =>
    { a with counters := { a.counters with
        rawRecords := Counter.inc a.counters.rawRecords, repeatsDiscarded := Counter.add a.counters.repeatsDiscarded n } } := rfl

theorem State.spoilReserve_eq (s : State) (f : FailRecord) (reserve : Nat) : s.spoilReserve f reserve =
    s.onAllocation f.channel fun a => { a with
      reserve := setReserve a.reserve f.bank reserve .bad
      counters := { a.counters with badReserve := Counter.inc a.counters.badReserve } } := by
  unfold State.spoilReserve State.setReserveRow State.onAllocCounters
  simp only [State.onAllocation_eq, State.onChan_onChan]

theorem State.onAllocation_onAllocation (s : State) (ch : Chan) (f g : ChannelAllocation → ChannelAllocation) :
    (s.onAllocation ch f).onAllocation ch g = s.onAllocation ch fun a => g (f a) := by
  simp only [State.onAllocation_eq, State.onChan_onChan]

theorem State.onAllocation_congr (s : State) (ch : Chan) {f g : ChannelAllocation → ChannelAllocation}
    (h : f s.chan[ch.val].allocation = g s.chan[ch.val].allocation) : s.onAllocation ch f = s.onAllocation ch g :=
  State.onChan_congr _ _ (by rw [h])

theorem State.onAllocation_releaseWhere (s : State) (ch : Chan) (f : ChannelAllocation → ChannelAllocation)
    (p : Repair → Bool) : (s.onAllocation ch f).releaseWhere p = (s.releaseWhere p).onAllocation ch f := by
  rw [State.releaseWhere_eq, State.releaseWhere_eq]
  exact State.onChan_mapTable s ch _ _

/-- Settles O43. -/
theorem reserveRowRecordSpoilsTheRow : Obligations.ReserveRowRecordSpoilsTheRow := by
  intro f s h c reserve was served
  have hindex : reserveIndex s.chan[f.channel.val].geometry f.row = reserve := rfl
  have hrecord : s.quiet.serveRecord f .reserveRow = s.quiet.reserveRecord f := rfl
  have hreserve : reserveAt (s.quiet.countRaw f 0).chan[f.channel.val].allocation.reserve f.bank reserve = was := by
    rw [State.countRaw_eq, State.onAllocation_same, State.quiet_chan]
    rfl
  rw [State.reserveRecord] at hrecord
  simp only [Fin.getElem_fin, State.quiet_geometry, hindex, hreserve] at hrecord
  have hspoilt : (s.quiet.countRaw f 0).spoilReserve f reserve = s.quiet.onAllocation f.channel fun a => { a with
      reserve := setReserve a.reserve f.bank reserve .bad
      counters := { a.counters with
        rawRecords := Counter.inc a.counters.rawRecords
        badReserve := Counter.inc a.counters.badReserve } } := by
    rw [State.spoilReserve_eq, State.countRaw_eq, State.onAllocation_onAllocation]
    exact State.onAllocation_congr _ _ (by simp only [Counter.add_zero])
  refine ⟨fun hw => ?_, fun hw => ?_, fun hw => ?_⟩
  · refine exec_serviceCompletion_served h rfl (hrecord.trans ?_)
    obtain hw | hw := hw
    · rw [hw]; exact hspoilt
    · rw [hw]; exact hspoilt
  · refine exec_serviceCompletion_served h rfl (hrecord.trans ?_)
    rw [hw]
    exact (State.countRaw_eq _ f 0).trans (State.onAllocation_congr _ _ (by simp only [Counter.add_zero]; rfl))
  · refine exec_serviceCompletion_served h (State.mapTable_allocator _ _) (hrecord.trans ?_)
    rw [hw]
    have hrelease : (s.quiet.mapTable fun _ e => if e.holdsReserve f.channel f.bank reserve then .free else e)
        = s.quiet.releaseWhere fun r => r.holdsReserve f.channel f.bank reserve := by
      simp only [State.releaseWhere_eq, Entry.any_holdsReserve]
    rw [hrelease]
    simp only [State.countRaw_eq, State.onAllocation_releaseWhere, State.spoilReserve_eq, State.onAllocCounters,
      State.onAllocation_onAllocation]
    exact State.onAllocation_congr _ _ (by simp only [Counter.add_zero]; rfl)

/-! ## A new fail -/

/-- What the tally step of a new fail comes to: the tally, and whether it overflowed. -/
def TallyStepped (tally : List TallyEntry) (bank : Bank) (row : Row) (after : List TallyEntry) (overflow : Bool) : Prop :=
  (tallyStep tally bank row = some after ∧ overflow = false)
    ∨ (tallyStep tally bank row = none ∧ after = tally ∧ overflow = true)

theorem State.tallyFail_eq {s : State} {f : FailRecord} {after : List TallyEntry} {overflow : Bool}
    (h : TallyStepped s.chan[f.channel.val].allocation.tally f.bank f.row after overflow) :
    s.tallyFail f = s.onAllocation f.channel fun a => { a with
      tally := after
      counters := { a.counters with
        tallyOverflows := if overflow then Counter.inc a.counters.tallyOverflows else a.counters.tallyOverflows } } := by
  refine State.onAllocation_congr _ _ ?_
  obtain ⟨h, rfl⟩ | ⟨h, rfl, rfl⟩ := h
  · simp only [h]
    rfl
  · simp only [h]
    rfl

theorem tallyGrow_eq (tally : List TallyEntry) (bank : Bank) (row : Row) (threshold : Nat) :
    tallyGrow tally bank row threshold = tally.map fun t =>
      if t.bank = bank ∧ t.row = row then
        { t with count := Counter.inc t.count
                 mustRemap := t.mustRemap || decide ((Counter.inc t.count).toNat = threshold) }
      else t := by
  refine List.map_congr_left fun t _ => ?_
  have hrow : t.ofRow bank row = true ↔ t.bank = bank ∧ t.row = row := by simp [TallyEntry.ofRow]
  by_cases h : t.bank = bank ∧ t.row = row
  · rw [if_pos h, if_pos (hrow.2 h)]
    rfl
  · rw [if_neg h, if_neg fun e => h (hrow.1 e)]

/-- The service of a new fail that finds a FREE entry. -/
theorem State.newFailRecord_created {s : State} {f : FailRecord} {st : Settings} {after : List TallyEntry} {overflow : Bool}
    (hst : s.chan[f.channel.val].setup.settings = some st)
    (ht : TallyStepped s.chan[f.channel.val].allocation.tally f.bank f.row after overflow) (i : Fin 64)
    (hi : s.table[i.val] = .free) (hm : ∀ j : Fin 64, j < i → s.table[j.val] ≠ .free) :
    s.newFailRecord f = ((s.setEntry i (.tentative
      { channel := f.channel, origin := .found, bank := f.bank, row := f.row,
        kind := .substitute (f.column &&& ~~~(s.chan[f.channel.val].ignored st.scope)) st.scope })).setLine i
          zeroLine).onAllocation f.channel fun a => { a with
        tally := tallyGrow after f.bank f.row st.threshold
        counters := { a.counters with
          rawRecords := Counter.inc a.counters.rawRecords
          repeatsDiscarded := Counter.add a.counters.repeatsDiscarded (f.repeats.toNat - 1)
          tallyOverflows := if overflow then Counter.inc a.counters.tallyOverflows else a.counters.tallyOverflows } } := by
  have hchan : (s.tallyFail f).chan[f.channel.val].setup = s.chan[f.channel.val].setup := by
    rw [State.tallyFail, State.onAllocation_same]
  have hignored : (s.tallyFail f).chan[f.channel.val].ignored = s.chan[f.channel.val].ignored := by
    rw [State.tallyFail, State.onAllocation_same]
    rfl
  have hsubstitute : (s.tallyFail f).substituteFor f =
      { channel := f.channel, origin := .found, bank := f.bank, row := f.row, kind := .substitute f.column st.scope } := by
    simp only [State.substituteFor, Fin.getElem_fin, hchan, hst]
  have hcreate := State.create_substitute (s.tallyFail f)
    { channel := f.channel, origin := .found, bank := f.bank, row := f.row, kind := .substitute f.column st.scope }
    f.column st.scope rfl i hi hm
  have hthreshold : (s.tallyFail f).chan[f.channel.val].threshold = st.threshold := by
    simp only [Channel.threshold, hchan, hst]
  rw [State.newFailRecord]
  simp only [hsubstitute, hcreate, hignored, Fin.getElem_fin, State.setLine_chan, State.setEntry_chan, hthreshold]
  rw [State.tallyFail_eq ht]
  simp only [State.countRaw_eq, State.onAllocation_eq, State.onChan_setEntry, State.onChan_setLine, State.onChan_onChan]

/-- The service of a new fail that finds the table full. -/
theorem State.newFailRecord_full {s : State} {f : FailRecord} {after : List TallyEntry} {overflow : Bool}
    (ht : TallyStepped s.chan[f.channel.val].allocation.tally f.bank f.row after overflow)
    (hm : ∀ j : Fin 64, s.table[j.val] ≠ .free) :
    s.newFailRecord f = s.onAllocation f.channel fun a => { a with
        tally := after
        exhausted := true
        counters := { a.counters with
          rawRecords := Counter.inc a.counters.rawRecords
          repeatsDiscarded := Counter.add a.counters.repeatsDiscarded (f.repeats.toNat - 1)
          tallyOverflows := if overflow then Counter.inc a.counters.tallyOverflows else a.counters.tallyOverflows
          unallocated := Counter.inc a.counters.unallocated } } := by
  have hcreate := State.create_full (s.tallyFail f) ((s.tallyFail f).substituteFor f) hm
  rw [State.newFailRecord]
  simp only [hcreate]
  rw [State.tallyFail_eq ht, State.countRaw_eq]
  simp only [State.onAllocation_onAllocation]

/-- Settles O42. -/
theorem newFailIsTalliedAndSubstituted : Obligations.NewFailIsTalliedAndSubstituted := by
  intro f tally' overflow st s h hst tally isRow joined hcases served grown column
  rw [Fin.getElem_fin] at hst
  have ht : TallyStepped s.quiet.chan[f.channel.val].allocation.tally f.bank f.row tally' overflow := by
    rw [State.quiet_allocation]
    obtain ⟨hrow, rfl, rfl⟩ | ⟨hno, hlen, rfl, rfl⟩ | ⟨older, younger, evicted, htally, hno, hlen, hold, hev, rfl, rfl⟩
      | ⟨hno, hlen, hall, rfl, rfl⟩ := hcases
    · exact .inl ⟨tallyStep_present _ _ _ hrow, rfl⟩
    · exact .inl ⟨tallyStep_joins _ _ _ hno hlen, rfl⟩
    · refine .inl ⟨?_, rfl⟩
      have htally' : s.chan[f.channel.val].allocation.tally = older ++ evicted :: younger := htally
      rw [htally] at hno hlen
      rw [htally']
      exact tallyStep_evicts older younger evicted _ _ hno hlen hold hev
    · exact .inr ⟨tallyStep_overflows _ _ _ hno hlen hall, rfl, rfl⟩
  refine ⟨fun i hi hm => ?_, fun hm => ?_⟩
  · refine exec_serviceCompletion_served h rfl ((State.newFailRecord_created (s := s.quiet) (st := st)
      (by rw [State.quiet_setup]; exact hst) ht i hi hm).trans ?_)
    rw [tallyGrow_eq, State.quiet_ignored]
    exact State.onAllocation_congr _ _ (by simp only [Bool.or_false]; rfl)
  · refine exec_serviceCompletion_served h rfl ((State.newFailRecord_full (s := s.quiet) ht hm).trans ?_)
    exact State.onAllocation_congr _ _ (by simp only [Bool.or_true]; rfl)

/-! ## Analysis -/

theorem ReserveState.promote_eq (st : ReserveState) : st.promote = if st = .untested then .good else st := by
  cases st <;> rfl

theorem State.promote_eq (s : State) (ch : Chan) (flag : Bool) : s.promote ch flag = s.onAllocation ch fun a => { a with
    reserve := if flag then a.reserve.map fun bank => bank.map fun st => if st = .untested then .good else st
      else a.reserve } := by
  have hpromote : ReserveState.promote = fun st => if st = .untested then .good else st := funext ReserveState.promote_eq
  cases flag with
  | true => rw [State.promote, if_pos rfl, State.mapReserve, hpromote]; rfl
  | false => exact (State.onChan_id s ch _ rfl).symm

theorem lowestGood_eq_none {lists : List (List ReserveState)} {bank : Bank}
    (h : ∀ st ∈ lists.getD bank.toNat [], st ≠ .good) : lowestGood lists bank = none :=
  List.findIdx?_eq_none_iff.2 fun st hst => by simpa using h st hst

theorem lowestGood_eq_some {lists : List (List ReserveState)} {bank : Bank} {reserve : Nat}
    (h : (lists.getD bank.toNat [])[reserve]? = some .good)
    (hm : ∀ j : Nat, j < reserve → (lists.getD bank.toNat [])[j]? ≠ some .good) : lowestGood lists bank = some reserve := by
  obtain ⟨hlt, hgood⟩ := List.getElem?_eq_some_iff.1 h
  refine List.findIdx?_eq_some_iff_getElem.2 ⟨hlt, by rw [hgood]; rfl, fun j hj e => hm j hj ?_⟩
  rw [List.getElem?_eq_getElem (Nat.lt_trans hj hlt)]
  exact congrArg some (by simpa using e)

/-- The table once the SUBSTITUTEs of a row are released. -/
theorem Entry.absorbed_eq (e : Entry) (ch : Chan) (row : TallyEntry) : (match e.repair? with
    | some r => if r.channel = ch ∧ r.bank = row.bank ∧ r.row = row.row ∧ r.isSubstitute = true then .free else e
    | none => e) = if (e.repair?.any fun r => r.ofRow ch row.bank row.row && r.isSubstitute) = true then .free else e := by
  cases e.repair? with
  | none => rfl
  | some r => simp [Repair.ofRow, and_assoc]

/-- The effects of an analysis on a marked row with a GOOD reserve row. -/
theorem State.remapMarked_good {s : State} {ch : Chan} {row : TallyEntry} {reserve : Nat} {i : Fin 64}
    (h : lowestGood s.chan[ch.val].allocation.reserve row.bank = some reserve) :
    let absorbed := s.releaseWhere fun r => r.ofRow ch row.bank row.row && r.isSubstitute
    absorbed.table[i.val] = .free → (∀ j : Fin 64, j < i → absorbed.table[j.val] ≠ .free) →
    State.remapMarked ch s row = (absorbed.setEntry i (.tentative
      { channel := ch, origin := .found, bank := row.bank, row := row.row, kind := .remap reserve })).onAllocation
        ch fun a => { a with reserve := setReserve a.reserve row.bank reserve .inUse } := by
  intro absorbed hi hm
  have hcreate := State.create_remap absorbed
    { channel := ch, origin := .found, bank := row.bank, row := row.row, kind := .remap reserve } reserve rfl i hi hm
  rw [State.remapMarked]
  simp only [Fin.getElem_fin, h]
  rw [hcreate]
  rfl

/-- Settles O44. -/
theorem analysisPromotesAndRemaps : Obligations.AnalysisPromotesAndRemaps := by
  refine ⟨fun ch flag s h => ?_, fun ch row s => ?_, fun ch s => ?_⟩
  · intro promoted marked
    have hpromoted : s.quiet.promote ch flag = promoted := s.quiet.promote_eq ch flag
    have hmarked : (promoted.chan[ch.val].allocation.tally.filter fun t => t.mustRemap) = marked := by
      rw [State.onAllocation_same, State.quiet_chan]
      rfl
    have hallocator : (marked.foldl (State.remapMarked ch) promoted).allocator = s.allocator :=
      (State.foldl_remapMarked_frame ch marked promoted).rest.allocator
    show Host.Outcome.next s.quiet.completeAnalysis = _
    rw [State.completeAnalysis, State.quiet_allocator, h]
    simp only [State.analyse, hpromoted, Fin.getElem_fin, hmarked]
    rw [State.idleAllocator, hallocator]
  · intro states absorbed
    have habsorbed : absorbed = s.releaseWhere fun r => r.ofRow ch row.bank row.row && r.isSubstitute := by
      rw [State.releaseWhere_eq]
      exact congrArg (State.mapTable s) (funext fun _ => funext fun e => Entry.absorbed_eq e ch row)
    refine ⟨fun hno => ?_, fun reserve i hgood hmin hi hm => ?_⟩
    · rw [State.remapMarked, Fin.getElem_fin,
        show lowestGood s.chan[ch.val].allocation.reserve row.bank = none from lowestGood_eq_none hno]
      rfl
    · rw [habsorbed] at hi hm ⊢
      exact State.remapMarked_good (lowestGood_eq_some hgood hmin) hi hm
  · intro c element
    have hdrain (hs : s.chan[ch.val].engine.state = .drain) : s.analysisReport ch =
        match elementAt s.store s.chan[ch.val].engine.position with
        | .analyse => ((s.onEngine ch fun e => { e with phase := .verify }).report ch [.analysing] .verifying).takeElementAt ch
            (s.chan[ch.val].engine.position + 1)
        | .finish => s.finishRun ch
        | .empty | .outside | .march _ | .hold _ _ | .repeated _ _ => s := if_pos hs
    refine ⟨fun hs => if_neg hs, fun hs he => ?_, fun hs he hc => ?_⟩
    · rw [hdrain hs, show elementAt s.store s.chan[ch.val].engine.position = .analyse from he]
      refine congrArg (State.takeElementAt · ch (s.chan[ch.val].engine.position + 1)) ?_
      rw [State.report_eq, State.onControl_eq, State.onEngine_eq, State.onChan_onChan]
      exact State.onChan_congr _ _ (by simp only [List.mem_singleton])
    · rw [hdrain hs, show elementAt s.store s.chan[ch.val].engine.position = .finish from he]
      exact (s.finishRun_eq ch).trans (if_pos hc)

end Sys2Proof.Machine

/-! PROOFS. The Repair Table's lookups and creations (R5, R10, R35 to R40): O49. -/

namespace Sys2Proof.Machine

theorem Entry.inForce_eq_some (a : Accessor) (e : Entry) (r : Repair) :
    e.inForce a = some r ↔ e = .active r ∨ e = .tentative r ∧ a = .proving := by
  cases a <;> cases e <;> simp [Entry.inForce]

theorem Repair.ofRow_iff (r : Repair) (ch : Chan) (bank : Bank) (row : Row) :
    r.ofRow ch bank row = true ↔ r.channel = ch ∧ r.bank = bank ∧ r.row = row := by
  simp [Repair.ofRow, and_assoc]

theorem Repair.wordMatch_eq_some (r : Repair) (c : Channel) (ch : Chan) (bank : Bank) (row : Row) (column : Column)
    (w : Fin 8) : r.wordMatch c ch bank row column = some w ↔
      (r.channel = ch ∧ r.bank = bank ∧ r.row = row) ∧ ∃ (base : Column) (scope : Scope), r.kind = .substitute base scope
        ∧ columnMatches c.geometry (c.ignored scope) base column = true ∧ w = spareOffset (c.ignored scope) column := by
  rw [← Repair.ofRow_iff, Repair.wordMatch]
  cases hk : r.kind with
  | remap reserve => simp
  | substitute base scope =>
    by_cases h : r.ofRow ch bank row = true ∧ columnMatches c.geometry (c.ignored scope) base column = true
    · simp only [RepairKind.substitute.injEq]
      rw [if_pos (by simpa using h)]
      constructor
      · intro e
        exact ⟨h.1, base, scope, ⟨rfl, rfl⟩, h.2, (Option.some.inj e).symm⟩
      · rintro ⟨-, b, sc, ⟨rfl, rfl⟩, -, rfl⟩
        rfl
    · simp only [RepairKind.substitute.injEq]
      rw [if_neg (by simpa using h)]
      refine iff_of_false nofun ?_
      rintro ⟨hr, b, sc, ⟨rfl, rfl⟩, hm, -⟩
      exact h ⟨hr, hm⟩

theorem Repair.rowMatch_eq_some (r : Repair) (ch : Chan) (bank : Bank) (row : Row) (reserve : Nat) :
    r.rowMatch ch bank row = some reserve ↔
      (r.channel = ch ∧ r.bank = bank ∧ r.row = row) ∧ r.kind = .remap reserve := by
  rw [← Repair.ofRow_iff, Repair.rowMatch]
  cases hk : r.kind with
  | remap n => by_cases h : r.ofRow ch bank row = true <;> simp [h]
  | substitute base scope => simp

/-- An entry takes part in an accessor's lookups of a row (Table 1.4, R36). -/
def State.TakesPart (s : State) (who : Accessor) (ch : Chan) (bank : Bank) (row : Row) (i : Fin 64) (r : Repair) : Prop :=
  (s.table[i.val] = .active r ∨ s.table[i.val] = .tentative r ∧ who = .proving) ∧ r.channel = ch ∧ r.bank = bank ∧ r.row = row

/-- A SUBSTITUTE entry matches a word lookup under its scope. -/
def State.Matches (s : State) (who : Accessor) (ch : Chan) (bank : Bank) (row : Row) (column : Column) (i : Fin 64)
    (scope : Scope) : Prop :=
  ∃ (r : Repair) (base : Column), s.TakesPart who ch bank row i r ∧ r.kind = .substitute base scope
    ∧ columnMatches s.chan[ch.val].geometry (s.chan[ch.val].ignored scope) base column = true

/-- What an entry gives a word lookup. -/
def State.wordAtEntry (s : State) (who : Accessor) (ch : Chan) (bank : Bank) (row : Row) (column : Column) (i : Fin 64) :
    Option (Fin 64 × Fin 8) :=
  ((s.table[i.val].inForce who).bind fun r => r.wordMatch s.chan[ch.val] ch bank row column).map fun o => (i, o)

/-- What an entry gives a row lookup. -/
def State.rowAtEntry (s : State) (who : Accessor) (ch : Chan) (bank : Bank) (row : Row) (i : Fin 64) : Option Nat :=
  (s.table[i.val].inForce who).bind fun r => r.rowMatch ch bank row

section

variable (s : State) (who : Accessor) (ch : Chan) (bank : Bank) (row : Row) (column : Column)

theorem State.wordLookup_eq_some (x : Fin 64 × Fin 8) : s.wordLookup who ch bank row column = some x ↔
    ∃ i : Fin 64, s.wordAtEntry who ch bank row column i = some x
      ∧ ∀ j : Fin 64, j < i → s.wordAtEntry who ch bank row column j = none :=
  findSome?_finRange _ x

theorem State.rowLookup_eq_some (reserve : Nat) : s.rowLookup who ch bank row = some reserve ↔
    ∃ i : Fin 64, s.rowAtEntry who ch bank row i = some reserve
      ∧ ∀ j : Fin 64, j < i → s.rowAtEntry who ch bank row j = none :=
  findSome?_finRange _ reserve

theorem State.wordAtEntry_eq_some (i k : Fin 64) (w : Fin 8) : s.wordAtEntry who ch bank row column i = some (k, w) ↔
    i = k ∧ ∃ scope : Scope, s.Matches who ch bank row column i scope
      ∧ w = spareOffset (s.chan[ch.val].ignored scope) column := by
  simp only [State.wordAtEntry, Option.map_eq_some_iff, Option.bind_eq_some_iff, Entry.inForce_eq_some,
    Repair.wordMatch_eq_some, State.Matches, State.TakesPart, Prod.mk.injEq]
  constructor
  · rintro ⟨o, ⟨r, hr, hrow, base, scope, hk, hm, rfl⟩, rfl, rfl⟩
    exact ⟨rfl, scope, ⟨r, base, ⟨hr, hrow⟩, hk, hm⟩, rfl⟩
  · rintro ⟨rfl, scope, ⟨r, base, ⟨hr, hrow⟩, hk, hm⟩, rfl⟩
    exact ⟨_, ⟨r, hr, hrow, base, scope, hk, hm, rfl⟩, rfl, rfl⟩

theorem State.wordAtEntry_eq_none (i : Fin 64) : s.wordAtEntry who ch bank row column i = none ↔
    ∀ scope : Scope, ¬ s.Matches who ch bank row column i scope := by
  rw [Option.eq_none_iff_forall_ne_some]
  constructor
  · intro h scope hm
    exact h (i, _) ((s.wordAtEntry_eq_some who ch bank row column i i _).2 ⟨rfl, scope, hm, rfl⟩)
  · rintro h ⟨k, w⟩ e
    obtain ⟨rfl, scope, hm, -⟩ := (s.wordAtEntry_eq_some who ch bank row column i k w).1 e
    exact h scope hm

theorem State.rowAtEntry_eq_some (i : Fin 64) (reserve : Nat) : s.rowAtEntry who ch bank row i = some reserve ↔
    ∃ r : Repair, s.TakesPart who ch bank row i r ∧ r.kind = .remap reserve := by
  simp only [State.rowAtEntry, Option.bind_eq_some_iff, Entry.inForce_eq_some, Repair.rowMatch_eq_some, State.TakesPart,
    and_assoc]

theorem State.rowAtEntry_eq_none (i : Fin 64) : s.rowAtEntry who ch bank row i = none ↔
    ∀ (q : Repair) (n : Nat), ¬ (s.TakesPart who ch bank row i q ∧ q.kind = .remap n) := by
  rw [Option.eq_none_iff_forall_ne_some]
  constructor
  · intro h q n hq
    exact h n ((s.rowAtEntry_eq_some who ch bank row i n).2 ⟨q, hq⟩)
  · intro h n e
    obtain ⟨q, hq⟩ := (s.rowAtEntry_eq_some who ch bank row i n).1 e
    exact h q n hq

end

/-- Settles O49. -/
theorem lookupAndCreationTakeLowestIndex : Obligations.LookupAndCreationTakeLowestIndex := by
  intro s who ch bank row column c takesPart matches_
  refine ⟨fun i w => ?_, fun reserve => ?_, fun r base scope hk => ⟨fun i hi hm => ?_, s.create_full r⟩,
    fun r reserve hk => ⟨s.create_remap r reserve hk, s.create_full r⟩, fun h => ?_, fun st reserve hst h => ?_, rfl,
    fun st hst => ⟨?_, ?_⟩⟩
  · rw [State.wordLookup_eq_some]
    simp only [State.wordAtEntry_eq_some, State.wordAtEntry_eq_none]
    constructor
    · rintro ⟨_, ⟨rfl, scope, hm, hw⟩, hmin⟩
      exact ⟨scope, hm, hw, fun j other hj => hmin j hj other⟩
    · rintro ⟨scope, hm, hw, hmin⟩
      exact ⟨i, ⟨rfl, scope, hm, hw⟩, fun j hj other => hmin j other hj⟩
  · rw [State.rowLookup_eq_some]
    simp only [State.rowAtEntry_eq_some, State.rowAtEntry_eq_none]
    constructor
    · rintro ⟨i, ⟨r, hr, hk⟩, hmin⟩
      exact ⟨i, r, hr, hk, fun j q n hj => hmin j hj q n⟩
    · rintro ⟨i, r, hr, hk, hmin⟩
      exact ⟨i, ⟨r, hr, hk⟩, fun j hj q n => hmin j q n hj⟩
  · exact s.create_substitute r base scope hk i hi hm
  · rw [State.physicalRow, h]
  · rw [State.physicalRow, h]
    show remapRow s.chan[ch.val].geometry reserve = _
    have hst : s.chan[ch.val].setup.settings = some st := hst
    simp only [remapRow, Channel.geometry, hst, Geometry.serviceRows, Geometry.rows]
  · simp only [c, Fin.getElem_fin] at hst ⊢
    simp only [Channel.ignored, hst]
  · simp only [c, Fin.getElem_fin] at hst ⊢
    simp only [Channel.ignored, hst]

end Sys2Proof.Machine

/-! PROOFS. The columns a SUBSTITUTE covers and their spare offsets (R8, R35 to R38): O47. -/

namespace Sys2Proof.Machine

/-! ### The clamped span mask -/

/-- A mask made of single positions holds exactly those below its width. -/
theorem foldl_position_bit (l : List Nat) (m : Column) (n : Nat) (hn : n < 10) :
    (l.foldl (fun m n => m ||| BitVec.ofNat 10 (2 ^ n)) m).getLsbD n = (m.getLsbD n || decide (n ∈ l)) := by
  induction l generalizing m with
  | nil => simp
  | cons p l ih =>
    rw [List.foldl_cons, ih, BitVec.getLsbD_or, BitVec.getLsbD_ofNat, Nat.testBit_two_pow, Bool.or_assoc]
    simp [hn, eq_comm]

theorem clampMask_bit (c recorded n : Nat) (h : (clampMask c recorded).getLsbD n = true) :
    n ∈ ((List.range c).filter recorded.testBit).take 3 := by
  have hn : n < 10 := BitVec.lt_of_getLsbD h
  rw [clampMask, foldl_position_bit _ _ n hn] at h
  have hzero : (0 : Column).getLsbD n = false := BitVec.getLsbD_zero
  rw [hzero, Bool.false_or] at h
  exact of_decide_eq_true h

theorem mem_ignoredPositions (mask : Column) (n : Nat) : n ∈ ignoredPositions mask ↔ mask.getLsbD n = true := by
  rw [ignoredPositions, List.mem_filter, List.mem_range]
  exact and_iff_right_of_imp BitVec.lt_of_getLsbD

theorem ignoredPositions_nodup (mask : Column) : (ignoredPositions mask).Nodup := List.nodup_range.filter _

theorem clampMask_below (c recorded n : Nat) (h : (clampMask c recorded).getLsbD n = true) : n < c :=
  List.mem_range.1 (List.mem_filter.1 (List.mem_of_mem_take (clampMask_bit c recorded n h))).1

/-- A clamped mask ignores at most three positions. -/
theorem ignoredPositions_clampMask_length (c recorded : Nat) : (ignoredPositions (clampMask c recorded)).length ≤ 3 := by
  have hsub : ignoredPositions (clampMask c recorded) ⊆ ((List.range c).filter recorded.testBit).take 3 :=
    fun n hn => clampMask_bit c recorded n ((mem_ignoredPositions _ n).1 hn)
  exact ((ignoredPositions_nodup _).subperm hsub).length_le.trans (List.length_take_le _ _)

/-! ### Gathering a column's bits -/

theorem gatherBits_lt (x : Column) (l : List Nat) : gatherBits x l < 2 ^ l.length := by
  induction l with
  | nil => simp [gatherBits]
  | cons n l ih =>
    have := (x.getLsbD n).toNat_le
    rw [gatherBits, List.length_cons, Nat.pow_succ]
    omega

theorem gatherBits_testBit (x : Column) (l : List Nat) (j n : Nat) (h : l[j]? = some n) :
    (gatherBits x l).testBit j = x.getLsbD n := by
  induction l generalizing j with
  | nil => simp at h
  | cons p l ih =>
    cases j with
    | zero =>
      obtain rfl : p = n := by simpa using h
      rw [gatherBits, Nat.testBit_zero]
      cases x.getLsbD p <;> simp
    | succ j =>
      rw [gatherBits, Nat.testBit_succ, ← ih j (by simpa using h)]
      congr 1
      have := (x.getLsbD p).toNat_le
      omega

theorem gatherBits_eq_zero (x : Column) (l : List Nat) (h : ∀ n ∈ l, x.getLsbD n = false) : gatherBits x l = 0 := by
  induction l with
  | nil => rfl
  | cons p l ih =>
    rw [gatherBits, h p List.mem_cons_self, ih fun n hn => h n (List.mem_cons_of_mem p hn)]
    rfl

theorem spareOffset_val (mask x : Column) (h : (ignoredPositions mask).length ≤ 3) :
    (spareOffset mask x).val = gatherBits x (ignoredPositions mask) := by
  have hlt := gatherBits_lt x (ignoredPositions mask)
  have hpow : 2 ^ (ignoredPositions mask).length ≤ 2 ^ 3 := Nat.pow_le_pow_right (by decide) h
  exact Nat.mod_eq_of_lt (hlt.trans_le hpow)

/-! ### The match -/

theorem compareMask_bit (g : Geometry) (mask : Column) (n : Nat) (hn : n < 10) :
    (compareMask g mask).getLsbD n = (decide (n < g.c) && !mask.getLsbD n) := by
  rw [compareMask, BitVec.getLsbD_and, BitVec.getLsbD_not, BitVec.getLsbD_ofNat, Geometry.columns,
    Nat.testBit_two_pow_sub_one]
  simp [hn]

theorem columnMatches_iff (g : Geometry) (mask x y : Column) : columnMatches g mask x y = true ↔
    ∀ n : Nat, n < g.c → mask.getLsbD n = false → x.getLsbD n = y.getLsbD n := by
  rw [columnMatches, beq_iff_eq]
  constructor
  · intro h n hn hm
    by_cases h10 : n < 10
    case neg => rw [BitVec.getLsbD_of_ge x n (by omega), BitVec.getLsbD_of_ge y n (by omega)]
    have hbit : ((y ^^^ x) &&& compareMask g mask).getLsbD n = false := by rw [h]; exact BitVec.getLsbD_zero
    rw [BitVec.getLsbD_and, BitVec.getLsbD_xor, compareMask_bit g mask n h10, hm] at hbit
    exact (by simpa [hn] using hbit : y.getLsbD n = x.getLsbD n).symm
  · intro h
    refine BitVec.eq_of_getLsbD_eq fun n hn => ?_
    simp only [BitVec.getLsbD_and, BitVec.getLsbD_xor, compareMask_bit g mask n hn]
    by_cases hnc : n < g.c
    · cases hm : mask.getLsbD n with
      | true => simp
      | false => simp [h n hnc hm]
    · simp [hnc]

theorem column_lt_iff (x : Column) (c : Nat) : x.toNat < 2 ^ c ↔ ∀ n : Nat, c ≤ n → x.getLsbD n = false := by
  constructor
  · intro h n hn
    exact Nat.testBit_lt_two_pow (h.trans_le (Nat.pow_le_pow_right (by decide) hn))
  · intro h
    exact Nat.lt_pow_two_of_testBit _ h

theorem normalisedColumn_bit (mask x : Column) (n : Nat) :
    (normalisedColumn mask x).getLsbD n = (x.getLsbD n && !mask.getLsbD n) := by
  by_cases hn : n < 10
  · simp [normalisedColumn, hn]
  · simp [BitVec.getLsbD_of_ge (normalisedColumn mask x) n (by omega), BitVec.getLsbD_of_ge x n (by omega)]

/-- A column below 2^c is covered exactly when it has the entry's normalised column. -/
theorem covers_iff (g : Geometry) (mask column x : Column) (hcol : column.toNat < 2 ^ g.c)
    (hx : x.toNat < 2 ^ g.c) : columnMatches g mask (normalisedColumn mask column) x = true ↔
      normalisedColumn mask x = normalisedColumn mask column := by
  rw [columnMatches_iff g]
  have hxc := (column_lt_iff x g.c).1 hx
  have hcc := (column_lt_iff column g.c).1 hcol
  constructor
  · intro h
    refine BitVec.eq_of_getLsbD_eq fun n _ => ?_
    have hn := h n
    rw [normalisedColumn_bit] at hn ⊢
    rw [normalisedColumn_bit]
    cases hm : mask.getLsbD n with
    | true => simp
    | false =>
      by_cases hnc : n < g.c
      · simpa [hm] using (hn hnc hm).symm
      · simp [hxc n (by omega), hcc n (by omega)]
  · intro h n _ hm
    rw [← h, normalisedColumn_bit, hm]
    simp

/-! ### The column at an offset -/

/-- The column whose bits at the ignored positions are those of an offset, and which is the base elsewhere. -/
def columnAtOffset (mask base : Column) (offset : Nat) : Column :=
  BitVec.ofFnLE fun i : Fin 10 =>
    if mask.getLsbD i.val then offset.testBit ((ignoredPositions mask).idxOf i.val) else base.getLsbD i.val

theorem columnAtOffset_bit (mask base : Column) (offset n : Nat) (hn : n < 10) :
    (columnAtOffset mask base offset).getLsbD n =
      if mask.getLsbD n then offset.testBit ((ignoredPositions mask).idxOf n) else base.getLsbD n := by
  simp only [columnAtOffset, BitVec.getLsbD_ofFnLE, hn, dite_true]

/-- The column at an offset has the base's normalised column. -/
theorem normalisedColumn_columnAtOffset (mask base : Column) (offset : Nat) :
    normalisedColumn mask (columnAtOffset mask base offset) = normalisedColumn mask base := by
  refine BitVec.eq_of_getLsbD_eq fun n hn => ?_
  rw [normalisedColumn_bit, normalisedColumn_bit, columnAtOffset_bit mask base offset n hn]
  cases mask.getLsbD n <;> simp

theorem columnAtOffset_lt (mask base : Column) (offset c : Nat) (hmask : ∀ n : Nat, mask.getLsbD n = true → n < c)
    (hbase : base.toNat < 2 ^ c) : (columnAtOffset mask base offset).toNat < 2 ^ c := by
  rw [column_lt_iff] at hbase ⊢
  intro n hn
  by_cases h10 : n < 10
  · rw [columnAtOffset_bit mask base offset n h10, if_neg fun h => absurd (hmask n h) (by omega), hbase n hn]
  · exact BitVec.getLsbD_of_ge _ n (by omega)

/-- Gathering the column at an offset gives the offset back. -/
theorem gatherBits_columnAtOffset (mask base : Column) (offset : Nat) (h : offset < 2 ^ (ignoredPositions mask).length) :
    gatherBits (columnAtOffset mask base offset) (ignoredPositions mask) = offset := by
  refine Nat.eq_of_testBit_eq fun j => ?_
  by_cases hj : j < (ignoredPositions mask).length
  · have hget := List.getElem?_eq_getElem hj
    have hmask := (mem_ignoredPositions mask _).1 (List.getElem_mem hj)
    rw [gatherBits_testBit _ _ j _ hget, columnAtOffset_bit _ _ _ _ (BitVec.lt_of_getLsbD hmask), if_pos hmask,
      (ignoredPositions_nodup mask).idxOf_getElem j hj]
  · have hpow {a : Nat} (ha : a < 2 ^ (ignoredPositions mask).length) : a.testBit j = false :=
      Nat.testBit_lt_two_pow (ha.trans_le (Nat.pow_le_pow_right (by decide) (by omega)))
    rw [hpow (gatherBits_lt _ _), hpow h]

/-- Two columns with the same bits at the ignored positions and the same normalised column are the same. -/
theorem column_eq_of_gatherBits (mask x y : Column) (hnorm : normalisedColumn mask x = normalisedColumn mask y)
    (hbits : gatherBits x (ignoredPositions mask) = gatherBits y (ignoredPositions mask)) : x = y := by
  refine BitVec.eq_of_getLsbD_eq fun n _ => ?_
  cases hm : mask.getLsbD n with
  | true =>
    obtain ⟨j, hj⟩ := List.mem_iff_getElem?.1 ((mem_ignoredPositions mask n).2 hm)
    rw [← gatherBits_testBit x _ j n hj, hbits, gatherBits_testBit y _ j n hj]
  | false =>
    have hbit := congrArg (fun v : Column => v.getLsbD n) hnorm
    simpa [normalisedColumn_bit, hm] using hbit

/-- Settles O47. -/
theorem coveredColumnsMapToOffsetsOneToOne : Obligations.CoveredColumnsMapToOffsetsOneToOne := by
  intro g recorded column hc hcol mask m base covers
  have hm : m ≤ 3 := ignoredPositions_clampMask_length g.c recorded
  have hbelow : ∀ n : Nat, mask.getLsbD n = true → n < g.c := clampMask_below g.c recorded
  have hcovers : ∀ x : Column, covers x ↔ x.toNat < 2 ^ g.c ∧ normalisedColumn mask x = base := fun x =>
    and_congr_right (covers_iff g mask column x hcol)
  have hbase : normalisedColumn mask base = base := by
    refine BitVec.eq_of_getLsbD_eq fun n _ => ?_
    rw [normalisedColumn_bit, normalisedColumn_bit, Bool.and_assoc, Bool.and_self]
  have hbaselt : base.toNat < 2 ^ g.c :=
    (BitVec.toNat_and column (~~~mask) ▸ Nat.and_le_left : base.toNat ≤ column.toNat).trans_lt hcol
  refine ⟨hm, (hcovers column).2 ⟨hcol, rfl⟩, (hcovers base).2 ⟨hbaselt, hbase⟩, ?_, fun x hx => ⟨?_, ((hcovers x).1 hx).2⟩,
    fun n hn => ⟨columnAtOffset mask base n.val, ⟨?_, ?_⟩, fun x hx => ?_⟩, fun x y => columnMatches_iff g mask x y, rfl,
    fun x j n hj => ?_⟩
  · refine Fin.ext ?_
    rw [spareOffset_val mask base hm]
    refine gatherBits_eq_zero base _ fun n hn => ?_
    rw [normalisedColumn_bit, (mem_ignoredPositions mask n).1 hn]
    simp
  · rw [spareOffset_val mask x hm]
    exact gatherBits_lt x _
  · refine (hcovers _).2 ⟨columnAtOffset_lt mask base n.val g.c hbelow hbaselt, ?_⟩
    rw [normalisedColumn_columnAtOffset, hbase]
  · exact Fin.ext ((spareOffset_val mask _ hm).trans (gatherBits_columnAtOffset mask base n.val hn))
  · obtain ⟨hx, hoff⟩ := hx
    refine column_eq_of_gatherBits mask x _ ?_ ?_
    · rw [normalisedColumn_columnAtOffset, hbase, ((hcovers x).1 hx).2]
    · rw [gatherBits_columnAtOffset mask base n.val hn, ← spareOffset_val mask x hm, hoff]
  · rw [spareOffset_val mask x hm]
    exact gatherBits_testBit x _ j n hj

end Sys2Proof.Machine

/-! PROOFS. The backgrounds' words and the stepped RANDOM word (R30 to R33): O48. -/

namespace Sys2Proof.Machine

theorem lfsrStep_ne_zero (v : BitVec 16) (hv : v ≠ 0) : lfsrStep v ≠ 0 := by
  intro h
  have h : v >>> 1 = if v.getLsbD 0 then 0xB400#16 else 0#16 := BitVec.xor_eq_zero_iff.1 h
  cases hbit : v.getLsbD 0 with
  | true =>
    -- the top bit of a shifted value is clear, that of B400h is set
    rw [hbit, if_pos rfl] at h
    have htop := congrArg (fun w : BitVec 16 => w.getLsbD 15) h
    simp at htop
  | false =>
    rw [hbit, if_neg (by decide)] at h
    refine hv (BitVec.eq_of_getLsbD_eq fun n hn => ?_)
    cases n with
    | zero => simpa using hbit
    | succ n =>
      have hn := congrArg (fun w : BitVec 16 => w.getLsbD n) h
      simpa [Nat.add_comm] using hn

theorem lfsrStep_eq_ite (v : BitVec 16) :
    lfsrStep v = if v.getLsbD 0 then (v >>> 1) ^^^ 0xB400#16 else v >>> 1 := by
  rw [lfsrStep]
  cases v.getLsbD 0 <;> simp

/-- The RANDOM word is its five values, one behind another. -/
theorem randomWord_eq_append (seed : BitVec 16) (key : Nat) :
    let v0 := nonzero16 (seed ^^^ BitVec.ofNat 16 key)
    randomWord seed key = lfsrSteps 1 v0 ++ lfsrSteps 2 v0 ++ lfsrSteps 3 v0 ++ lfsrSteps 4 v0 ++
      (lfsrSteps 5 v0).setWidth 8 := by
  intro v0
  refine BitVec.eq_of_toNat_eq ?_
  simp only [randomWord, lfsrSteps, BitVec.toNat_append, BitVec.toNat_ofNat, BitVec.toNat_setWidth]
  rw [← Nat.shiftLeft_add_eq_or_of_lt, ← Nat.shiftLeft_add_eq_or_of_lt, ← Nat.shiftLeft_add_eq_or_of_lt,
    ← Nat.shiftLeft_add_eq_or_of_lt]
  · simp only [Nat.shiftLeft_eq, v0]
    omega
  all_goals omega

theorem extract_append_high {a k : Nat} (high : BitVec a) (low : BitVec k) (i n : Nat) :
    (high ++ low).extractLsb' (k + i) n = high.extractLsb' i n := by
  rw [BitVec.extractLsb'_append_eq_of_le (Nat.le_add_right k i), Nat.add_sub_cancel_left]

theorem extract_append_low {a k : Nat} (high : BitVec a) (low : BitVec k) : (high ++ low).extractLsb' 0 k = low := by
  rw [BitVec.extractLsb'_append_eq_of_add_le (by omega), BitVec.extractLsb'_eq_self]

/-- The fields of five values, one behind another. -/
theorem appendedFields (v1 v2 v3 v4 : BitVec 16) (v5 : BitVec 8) :
    let word := v1 ++ v2 ++ v3 ++ v4 ++ v5
    word.extractLsb' 56 16 = v1 ∧ word.extractLsb' 40 16 = v2 ∧ word.extractLsb' 24 16 = v3 ∧ word.extractLsb' 8 16 = v4
      ∧ word.extractLsb' 0 8 = v5 := by
  intro word
  have below (i : Nat) : word.extractLsb' (8 + i) 16 = (v1 ++ v2 ++ v3 ++ v4).extractLsb' i 16 :=
    extract_append_high _ v5 i 16
  have below' (i : Nat) : word.extractLsb' (8 + (16 + i)) 16 = (v1 ++ v2 ++ v3).extractLsb' i 16 :=
    (below _).trans (extract_append_high _ v4 i 16)
  have below'' (i : Nat) : word.extractLsb' (8 + (16 + (16 + i))) 16 = (v1 ++ v2).extractLsb' i 16 :=
    (below' _).trans (extract_append_high _ v3 i 16)
  exact ⟨((below'' 16).trans (extract_append_high v1 v2 0 16)).trans BitVec.extractLsb'_eq_self,
    (below'' 0).trans (extract_append_low v1 v2), (below' 0).trans (extract_append_low _ v3),
    (below 0).trans (extract_append_low _ v4), extract_append_low _ v5⟩

theorem parityWord_eq (n : Nat) : parityWord n = if n % 2 = 0 then (0 : Word) else BitVec.allOnes 72 := rfl

/-- A word with one lane set is the lane's word. -/
theorem eq_laneWord (word : Word) (lane : Fin 9)
    (h : ∀ n : Nat, n < 72 → word.getLsbD n = decide (n / 8 = lane.val)) : laneWord lane.val = word := by
  refine BitVec.eq_of_getLsbD_eq fun n hn => ?_
  rw [h n hn, laneWord_bit lane ⟨n, hn⟩]
  exact decide_eq_decide.2 eq_comm

theorem Op.expected_eq (o : Op) (w : Word) :
    o.expected w = if o = .readInverse ∨ o = .writeInverse then ~~~w else w := by
  cases o <;> rfl

/-- The expected word of a MARCH element's operation, from its background in force. -/
theorem State.expectedWord_march (s : State) (ch : Chan) (m : March) (o : Op) (a : Address)
    (hm : elementAt s.store s.chan[ch.val].engine.position = .march m) :
    s.expectedWord ch o a = o.expected (trueWord s.chan[ch.val].geometry (s.chan[ch.val].background m)
      s.spare[(patternEntry m.pattern).val] (s.chan[ch.val].engine.passSeed.getD
        (passSeedOf m.seed s.chan[ch.val].engine.pass)) a) := by
  unfold State.expectedWord
  dsimp only [Fin.getElem_fin]
  rw [hm]

theorem Channel.background_of_ne (c : Channel) (m : March) (h : m.background ≠ .stored) : c.background m = m.background :=
  if_neg fun hc => h hc.1

/-- Settles O48. -/
theorem randomWordIsStepped : Obligations.RandomWordIsStepped := by
  refine ⟨lfsrStep_ne_zero, lfsrStep_eq_ite, fun seed key => ?_, fun v => ⟨rfl, fun n => rfl⟩, fun seed pass => rfl,
    fun ch m o a s => ?_⟩
  · intro x v0 word
    have h := appendedFields (lfsrSteps 1 v0) (lfsrSteps 2 v0) (lfsrSteps 3 v0) (lfsrSteps 4 v0)
      ((lfsrSteps 5 v0).setWidth 8)
    have e : word = _ := randomWord_eq_append seed key
    rw [e]
    exact h
  · intro c hm row column parity expects
    have expects_iff : ∀ word : Word, expects word ↔ s.expectedWord ch o a = o.expected word := fun word => by
      rw [Op.expected_eq]
    simp only [expects_iff, s.expectedWord_march ch m o a hm]
    have plain : m.background ≠ .stored → s.chan[ch.val].background m = m.background :=
      s.chan[ch.val].background_of_ne m
    refine ⟨fun h => ?_, fun h => ?_, fun h => ?_, fun h => ?_, fun h word hword => ?_, fun i w h hlent hi hw => ?_,
      fun h hun => ?_, fun st seed h hst hseed => ?_⟩
    · rw [plain (by simp [h]), h, trueWord]
    · rw [plain (by simp [h]), h, trueWord]
      rfl
    · rw [plain (by simp [h]), h, trueWord]
      rfl
    · rw [plain (by simp [h]), h, trueWord]
      rfl
    · rw [plain (by simp [h]), h, trueWord]
      exact congrArg o.expected (eq_laneWord word ⟨column % 9, Nat.mod_lt _ (by decide)⟩ hword)
    · have hkind : s.chan[ch.val].background m = .stored := by
        rw [Channel.background, if_neg fun hc => hc.2 hlent, h]
      obtain rfl : i = patternEntry m.pattern := Fin.ext hi
      obtain rfl : w = Fin.ofNat 8 a.column.toNat := Fin.ext hw
      rw [hkind, trueWord]
      rfl
    · have hkind : s.chan[ch.val].background m = .solid :=
        if_pos ⟨h, fun hlent => nomatch hun.symm.trans hlent⟩
      rw [hkind, trueWord]
    · have hst : s.chan[ch.val].setup.settings = some st := hst
      have hseed : s.chan[ch.val].engine.passSeed = some seed := hseed
      rw [plain (by simp [h]), h, trueWord, hseed]
      simp only [addressKey, Channel.geometry, hst, Geometry.rows, Geometry.columns, Option.getD_some]
      rfl

end Sys2Proof.Machine

/-! PROOFS. Validation of a program and the plan of an accepted one, but for its chains (R65, R71, R73): O50, first part. -/

namespace Sys2Proof.Machine

/-! ### The refusals of Table 4.2 -/

theorem Element.barsSpan_iff (e : Element) :
    e.barsSpan = true ↔ e = .analyse ∨ ∃ n k : Nat, e = .repeated n k := by
  cases e <;> simp [Element.barsSpan]

/-- The span of a REPEAT holds a record that bars it. -/
theorem span_any_barsSpan (store : Vector Element 64) (j n : Nat) (hn : n ≤ j) :
    ((List.range n).any fun d => (elementAt store (j - n + d)).barsSpan) = true ↔
      ∃ i : Nat, j ≤ i + n ∧ i < j ∧ (elementAt store i = .analyse ∨ ∃ n' k', elementAt store i = .repeated n' k') := by
  simp only [List.any_eq_true, List.mem_range, Element.barsSpan_iff]
  constructor
  · rintro ⟨d, hd, hbars⟩
    exact ⟨j - n + d, by omega, by omega, hbars⟩
  · rintro ⟨i, hlow, hhigh, hbars⟩
    refine ⟨i + n - j, by omega, ?_⟩
    rwa [show j - n + (i + n - j) = i by omega]

/-- The refusal at a record, when `analyseRead` says whether an ANALYSE was read before it. -/
theorem refusalAt_eq_some (store : Vector Element 64) (start j : Nat) (analyseRead : Bool) (reason : SettingsError)
    (hread : analyseRead = true ↔ ∃ i : Nat, start ≤ i ∧ i < j ∧ elementAt store i = .analyse) :
    refusalAt store start j analyseRead = some reason ↔ RefusedAt store start j reason := by
  unfold refusalAt RefusedAt
  cases he : elementAt store j with
  | empty => simpa using eq_comm
  | outside => simpa using eq_comm
  | hold duration refresh => simp
  | finish => simp
  | march m => 
    by_cases hops : m.ops = []
    · simpa [hops] using eq_comm
    · simp [hops]
  | analyse =>
    simp only [← hread]
    cases analyseRead with
    | true => simpa using eq_comm
    | false => simp
  | repeated n k =>
    dsimp only
    by_cases hzero : n = 0 ∨ k = 0
    · rw [if_pos hzero]
      refine iff_of_false nofun ?_
      rintro (⟨-, h | h⟩ | ⟨-, _, h, -⟩ | ⟨-, h, -⟩ | ⟨-, n', k', h, hn, hk, -⟩ | ⟨-, n', k', h, hn, hk, -⟩) <;>
        simp only [reduceCtorEq, Element.repeated.injEq] at h <;> omega
    · rw [if_neg hzero]
      by_cases hstart : j < start + n
      · rw [if_pos hstart, Option.some.injEq]
        constructor
        · rintro rfl
          exact .inr (.inr (.inr (.inl ⟨rfl, n, k, rfl, by omega, by omega, hstart⟩)))
        · rintro (⟨-, h | h⟩ | ⟨-, _, h, -⟩ | ⟨-, h, -⟩ | ⟨h, -⟩ | ⟨-, n', k', h, -, -, hle, -⟩)
          case inr.inr.inr.inl => exact h.symm
          all_goals simp only [reduceCtorEq, Element.repeated.injEq] at h
          omega
      · rw [if_neg hstart]
        by_cases hbars : ((List.range n).any fun d => (elementAt store (j - n + d)).barsSpan) = true
        · rw [if_pos hbars, Option.some.injEq]
          constructor
          · rintro rfl
            exact .inr (.inr (.inr (.inr ⟨rfl, n, k, rfl, by omega, by omega, by omega,
              (span_any_barsSpan store j n (by omega)).1 hbars⟩)))
          · rintro (⟨-, h | h⟩ | ⟨-, _, h, -⟩ | ⟨-, h, -⟩ | ⟨-, n', k', h, -, -, hlt⟩ | ⟨h, -⟩)
            case inr.inr.inr.inr => exact h.symm
            all_goals simp only [reduceCtorEq, Element.repeated.injEq] at h
            omega
        · rw [if_neg hbars]
          refine iff_of_false nofun ?_
          rintro (⟨-, h | h⟩ | ⟨-, _, h, -⟩ | ⟨-, h, -⟩ | ⟨-, n', k', h, -, -, hlt⟩ | ⟨-, n', k', h, -, -, -, hspan⟩)
          all_goals simp only [reduceCtorEq, Element.repeated.injEq] at h
          · omega
          · obtain ⟨rfl, rfl⟩ := h
            exact hbars ((span_any_barsSpan store j n (by omega)).2 hspan)

/-- No refusal applies at an END. -/
theorem not_refusedAt_finish (store : Vector Element 64) (start j : Nat) (he : elementAt store j = .finish)
    (reason : SettingsError) : ¬ RefusedAt store start j reason := by
  unfold RefusedAt
  rw [he]
  rintro (⟨-, h | h⟩ | ⟨-, _, h, -⟩ | ⟨-, h, -⟩ | ⟨-, _, _, h, -⟩ | ⟨-, _, _, h, -⟩) <;> exact nomatch h

/-! ### Reading the records upward -/

/-- What reading at most `fuel` records from `j` answers. -/
def ReadingAnswers (store : Vector Element 64) (start fuel j : Nat) (answer : Except SettingsError Nat) : Prop :=
  (∀ finish : Nat, answer = .ok finish ↔ j ≤ finish ∧ finish < j + fuel ∧ elementAt store finish = .finish
      ∧ ∀ i : Nat, j ≤ i → i < finish → ReadsOn store start i)
    ∧ ∀ reason : SettingsError, answer = .error reason ↔
        (∃ k : Nat, j ≤ k ∧ k < j + fuel ∧ RefusedAt store start k reason
          ∧ ∀ i : Nat, j ≤ i → i < k → ReadsOn store start i)
        ∨ reason = .noEnd ∧ ∀ i : Nat, j ≤ i → i < j + fuel → ReadsOn store start i

section

variable {store : Vector Element 64} {start fuel j : Nat}

theorem ReadingAnswers.none : ReadingAnswers store start 0 j (.error .noEnd) := by
  refine ⟨fun finish => iff_of_false nofun fun h => by omega, fun reason => ?_⟩
  constructor
  · intro h
    cases h
    exact .inr ⟨rfl, fun i _ _ => by omega⟩
  · rintro (⟨k, _, _, -⟩ | ⟨rfl, -⟩)
    · omega
    · rfl

/-- At most one refusal applies at a record. -/
theorem RefusedAt.unique {reason other : SettingsError} (h : RefusedAt store start j reason)
    (h' : RefusedAt store start j other) : reason = other := by
  classical
  have hread := (decide_eq_true_iff (p := ∃ i : Nat, start ≤ i ∧ i < j ∧ elementAt store i = .analyse))
  have e := (refusalAt_eq_some store start j _ reason hread).2 h
  exact Option.some.inj (e.symm.trans ((refusalAt_eq_some store start j _ other hread).2 h'))

theorem ReadingAnswers.refused {reason : SettingsError} (h : RefusedAt store start j reason) :
    ReadingAnswers store start (fuel + 1) j (.error reason) := by
  have stops : ∀ i : Nat, (∀ k : Nat, j ≤ k → k < i → ReadsOn store start k) → i ≤ j := fun i hon =>
    Nat.not_lt.1 fun hi => (hon j le_rfl hi).2 reason h
  refine ⟨fun finish => iff_of_false nofun ?_, fun other => ?_⟩
  · rintro ⟨hle, -, hfinish, hon⟩
    obtain rfl := Nat.le_antisymm (stops finish hon) hle
    exact not_refusedAt_finish store start _ hfinish reason h
  · constructor
    · rintro ⟨⟩
      exact .inl ⟨j, le_rfl, by omega, h, fun i _ _ => by omega⟩
    · rintro (⟨k, hle, -, hk, hon⟩ | ⟨-, hon⟩)
      · obtain rfl := Nat.le_antisymm (stops k hon) hle
        rw [h.unique hk]
      · exact absurd (stops (j + (fuel + 1)) hon) (by omega)

theorem ReadingAnswers.ends (h : elementAt store j = .finish) : ReadingAnswers store start (fuel + 1) j (.ok j) := by
  have stops : ∀ i : Nat, (∀ k : Nat, j ≤ k → k < i → ReadsOn store start k) → i ≤ j := fun i hon =>
    Nat.not_lt.1 fun hi => (hon j le_rfl hi).1 h
  refine ⟨fun finish => ?_, fun reason => iff_of_false nofun ?_⟩
  · constructor
    · rintro ⟨⟩
      exact ⟨le_rfl, by omega, h, fun i _ _ => by omega⟩
    · rintro ⟨hle, -, -, hon⟩
      rw [Nat.le_antisymm (stops finish hon) hle]
  · rintro (⟨k, hle, -, hk, hon⟩ | ⟨-, hon⟩)
    · obtain rfl := Nat.le_antisymm (stops k hon) hle
      exact not_refusedAt_finish store start _ h reason hk
    · exact absurd (stops (j + (fuel + 1)) hon) (by omega)

/-- Reading on past a record answers what the rest answers. -/
theorem ReadingAnswers.readsOn {answer : Except SettingsError Nat} (h : ReadsOn store start j)
    (rest : ReadingAnswers store start fuel (j + 1) answer) : ReadingAnswers store start (fuel + 1) j answer := by
  have upto : ∀ n : Nat, (∀ i : Nat, j + 1 ≤ i → i < n → ReadsOn store start i) ↔
      ∀ i : Nat, j ≤ i → i < n → ReadsOn store start i := fun n =>
    ⟨fun hon i hi hn => (Nat.eq_or_lt_of_le hi).elim (fun e => e ▸ h) fun hlt => hon i hlt hn,
      fun hon i hi => hon i (by omega)⟩
  obtain ⟨hok, herror⟩ := rest
  refine ⟨fun finish => (hok finish).trans ?_, fun reason => (herror reason).trans (or_congr ?_ ?_)⟩
  · rw [upto]
    constructor
    · rintro ⟨hle, hlt, hf, hon⟩
      exact ⟨by omega, by omega, hf, hon⟩
    · rintro ⟨hle, hlt, hf, hon⟩
      have hne : finish ≠ j := by
        rintro rfl
        exact h.1 hf
      exact ⟨by omega, by omega, hf, hon⟩
  · constructor
    · rintro ⟨k, hle, hlt, hk, hon⟩
      exact ⟨k, by omega, by omega, hk, (upto k).1 hon⟩
    · rintro ⟨k, hle, hlt, hk, hon⟩
      have hne : k ≠ j := by
        rintro rfl
        exact h.2 reason hk
      exact ⟨k, by omega, by omega, hk, (upto k).2 hon⟩
  · rw [upto, show j + 1 + fuel = j + (fuel + 1) by omega]

end

theorem validateFrom_answers (store : Vector Element 64) (start fuel j : Nat) (analyseRead : Bool) (hj : start ≤ j)
    (hread : analyseRead = true ↔ ∃ i : Nat, start ≤ i ∧ i < j ∧ elementAt store i = .analyse) :
    ReadingAnswers store start fuel j (validateFrom store start fuel j analyseRead) := by
  induction fuel generalizing j analyseRead with
  | zero => exact .none
  | succ fuel ih =>
    have hrefusal := refusalAt_eq_some store start j analyseRead
    rw [validateFrom]
    cases hr : refusalAt store start j analyseRead with
    | some reason => exact .refused ((hrefusal reason hread).1 hr)
    | none =>
      have hnone : ∀ reason : SettingsError, ¬ RefusedAt store start j reason := fun reason h => by
        simpa [hr] using (hrefusal reason hread).2 h
      have earlier : (∃ i : Nat, start ≤ i ∧ i < j + 1 ∧ elementAt store i = .analyse) ↔
          (∃ i : Nat, start ≤ i ∧ i < j ∧ elementAt store i = .analyse) ∨ elementAt store j = .analyse := by
        constructor
        · rintro ⟨i, hi, hlt, he⟩
          rcases Nat.lt_succ_iff_lt_or_eq.1 hlt with hlt | rfl
          · exact .inl ⟨i, hi, hlt, he⟩
          · exact .inr he
        · rintro (⟨i, hi, hlt, he⟩ | he)
          · exact ⟨i, hi, by omega, he⟩
          · exact ⟨j, hj, by omega, he⟩
      have next : elementAt store j ≠ .finish → elementAt store j ≠ .analyse →
          ReadingAnswers store start (fuel + 1) j (validateFrom store start fuel (j + 1) analyseRead) :=
        fun hfinish hanalyse => .readsOn ⟨hfinish, hnone⟩
          (ih (j + 1) analyseRead (by omega) (by rw [hread, earlier, or_iff_left hanalyse]))
      cases he : elementAt store j with
      | finish => exact .ends he
      | analyse =>
        refine .readsOn ⟨by simp [he], hnone⟩ (ih (j + 1) true (by omega) ?_)
        rw [earlier]
        exact iff_of_true rfl (.inr he)
      | empty => exact next (by simp [he]) (by simp [he])
      | outside => exact next (by simp [he]) (by simp [he])
      | march m => exact next (by simp [he]) (by simp [he])
      | hold duration refresh => exact next (by simp [he]) (by simp [he])
      | repeated n k => exact next (by simp [he]) (by simp [he])

theorem validate_answers (store : Vector Element 64) (start : Nat) :
    ReadingAnswers store start (64 - start) start (validate store start) :=
  validateFrom_answers store start _ start false le_rfl
    (iff_of_false nofun fun ⟨_, hle, hlt, _⟩ => absurd hlt (by omega))

/-! ### Operations and slots (R65) -/

theorem takeWhile_isSome_eq_map {α : Type} (l : List (Option α)) :
    l.takeWhile Option.isSome = ((l.takeWhile Option.isSome).filterMap id).map some := by
  induction l with
  | nil => rfl
  | cons o l ih =>
    cases o with
    | none => rfl
    | some x => simpa using ih

theorem dropWhile_isSome_head? {α : Type} (l : List (Option α)) :
    l.dropWhile Option.isSome = [] ∨ (l.dropWhile Option.isSome).head? = some none := by
  induction l with
  | nil => exact .inl rfl
  | cons o l ih =>
    cases o with
    | none => exact .inr rfl
    | some x => simpa using ih

theorem March.slots_eq (m : March) : ∃ rest : List (Option Op), m.slots = m.ops.map some ++ rest
    ∧ (rest = [] ∨ rest.head? = some none) :=
  ⟨m.slots.dropWhile Option.isSome, by
    rw [March.ops, ← takeWhile_isSome_eq_map, List.takeWhile_append_dropWhile], dropWhile_isSome_head? m.slots⟩

theorem March.ops_length_le (m : March) : m.ops.length ≤ m.slots.length :=
  (List.length_filterMap_le _ _).trans (List.takeWhile_sublist _).length_le

theorem opsAt_march {store : Vector Element 64} {i : Nat} {m : March} (h : elementAt store i = .march m) :
    opsAt store i = m.ops := by
  rw [opsAt, h]

theorem opsAt_of_not_march {store : Vector Element 64} {i : Nat} (h : ∀ m : March, elementAt store i ≠ .march m) :
    opsAt store i = [] := by
  unfold opsAt
  cases he : elementAt store i with
  | march m => exact absurd he (h m)
  | empty => rfl
  | outside => rfl
  | hold duration refresh => rfl
  | repeated n k => rfl
  | analyse => rfl
  | finish => rfl

theorem chainOps_cons (store : Vector Element 64) (i : Nat) (chain : List Nat) :
    chainOps store (i :: chain) = ((opsAt store i).map fun o => (i, o)) ++ chainOps store chain := rfl

theorem chainOps_append (store : Vector Element 64) (chain other : List Nat) :
    chainOps store (chain ++ other) = chainOps store chain ++ chainOps store other := List.flatMap_append

theorem chainOps_singleton_length {store : Vector Element 64} {i : Nat} {m : March} (h : elementAt store i = .march m) :
    (chainOps store [i]).length = m.ops.length := by
  rw [chainOps_cons, opsAt_march h]
  simp [chainOps]

/-- A MARCH element of a store that an image writes has at most four operations. -/
theorem storeOf_march_ops (image : List Byte) (i : Nat) (m : March) (h : elementAt (storeOf image) i = .march m) :
    m.ops.length ≤ 4 := by
  rw [elementAt] at h
  split at h
  case isFalse => exact nomatch h
  rw [storeOf, Vector.getElem_ofFn] at h
  split at h
  case isFalse => exact nomatch h
  unfold elementOf at h
  dsimp only at h
  split at h
  · split at h
    · cases h
      exact (March.ops_length_le _).trans (by simp [marchAt])
    · exact nomatch h
  · split at h
    · exact nomatch h
    · split at h
      · exact nomatch h
      · split at h
        · exact nomatch h
        · split at h <;> exact nomatch h

/-! ### The plan but for its chains (R18, R73, R77) -/

theorem mem_pathIndices (start finish j : Nat) : j ∈ pathIndices start finish ↔ start ≤ j ∧ j ≤ finish := by
  rw [pathIndices, List.mem_range'_1]
  omega

theorem Element.kind_eq_analyse (e : Element) : e.kind = some .analyse ↔ e = .analyse := by
  cases e <;> simp [Element.kind]

theorem spanAt_eq_some (store : Vector Element 64) (j : Nat) (sp : RepeatSpan) : spanAt store j = some sp ↔
    sp.index = j ∧ 1 ≤ sp.count ∧ ∃ n : Nat, 1 ≤ n ∧ elementAt store j = .repeated n sp.count ∧ sp.first = j - n := by
  unfold spanAt
  obtain ⟨index, first, count⟩ := sp
  cases he : elementAt store j with
  | repeated n k =>
    dsimp only
    by_cases hzero : n = 0 ∨ k = 0
    · rw [if_pos hzero]
      refine iff_of_false nofun ?_
      rintro ⟨-, hcount, n', hn, h, -⟩
      cases h
      omega
    · rw [if_neg hzero, Option.some.injEq, RepeatSpan.mk.injEq]
      constructor
      · rintro ⟨rfl, rfl, rfl⟩
        exact ⟨rfl, by omega, n, by omega, rfl, rfl⟩
      · rintro ⟨rfl, -, n', -, h, rfl⟩
        cases h
        exact ⟨rfl, rfl, rfl⟩
  | empty => simp
  | outside => simp
  | march m => simp
  | hold duration refresh => simp
  | analyse => simp
  | finish => simp

theorem spanOf_eq_none (spans : List RepeatSpan) (j : Nat) :
    spanOf spans j = none ↔ ∀ sp ∈ spans, ¬ (sp.first ≤ j ∧ j < sp.index) := by
  simp [spanOf]

theorem spanOf_eq_some {spans : List RepeatSpan} {j index : Nat} (h : spanOf spans j = some index) :
    ∃ sp ∈ spans, sp.index = index ∧ sp.first ≤ j ∧ j < sp.index := by
  obtain ⟨sp, hfind, hindex⟩ := Option.map_eq_some_iff.1 h
  have hin := List.find?_some hfind
  simp only [Bool.and_eq_true, decide_eq_true_eq] at hin
  exact ⟨sp, List.mem_of_find?_eq_some hfind, hindex, hin⟩

theorem mem_patternsNamed (store : Vector Element 64) (path : List Nat) (p : Fin 8) : p ∈ patternsNamed store path ↔
    ∃ (j : Nat) (m : March), j ∈ path ∧ elementAt store j = .march m ∧ m.background = .stored ∧ m.pattern = p := by
  rw [patternsNamed, List.mem_filter, and_iff_right (List.mem_finRange p), List.any_eq_true]
  constructor
  · rintro ⟨j, hj, h⟩
    cases he : elementAt store j with
    | march m =>
      rw [he] at h
      simp only [Bool.and_eq_true, beq_iff_eq] at h
      exact ⟨j, m, hj, he, h⟩
    | empty => simp [he] at h
    | outside => simp [he] at h
    | hold duration refresh => simp [he] at h
    | repeated n k => simp [he] at h
    | analyse => simp [he] at h
    | finish => simp [he] at h
  · rintro ⟨j, m, hj, he, hb, hp⟩
    exact ⟨j, hj, by simp [he, hb, hp]⟩

theorem buildPlan_describes (store : Vector Element 64) (start finish : Nat) :
    PlanDescribes store start finish (buildPlan store start finish) := by
  have ascending : (pathIndices start finish).Pairwise (· < ·) := List.pairwise_lt_range'
  refine ⟨?_, fun j kind => ?_, fun j => ?_, ?_, fun sp => ?_, fun j => spanOf_eq_none _ j, fun j index => spanOf_eq_some,
    fun p => ?_⟩
  · rw [List.pairwise_map, buildPlan, List.pairwise_filterMap]
    refine ascending.imp fun {i j} hij x hx y hy => ?_
    obtain ⟨_, -, rfl⟩ := Option.map_eq_some_iff.1 hx
    obtain ⟨_, -, rfl⟩ := Option.map_eq_some_iff.1 hy
    exact hij
  · simp only [buildPlan, List.mem_filterMap, Option.map_eq_some_iff, Prod.mk.injEq, mem_pathIndices]
    constructor
    · rintro ⟨i, hi, k, hk, rfl, rfl⟩
      exact ⟨hi, hk⟩
    · rintro ⟨hj, hk⟩
      exact ⟨j, hj, kind, hk, rfl, rfl⟩
  · rw [buildPlan, pathIndices, List.find?_range'_eq_some]
    simp only [beq_iff_eq, Element.kind_eq_analyse, List.mem_range'_1, Bool.not_eq_true', beq_eq_false_iff_ne, ne_eq]
    constructor
    · rintro ⟨he, hj, hmin⟩
      exact ⟨⟨hj.1, by omega⟩, he, fun i hi hlt => hmin i hi.1 hlt⟩
    · rintro ⟨⟨hstart, hfinish⟩, he, hmin⟩
      exact ⟨he, ⟨hstart, by omega⟩, fun i hi hlt => hmin i ⟨hi, by omega⟩ hlt⟩
  · rw [List.pairwise_map, buildPlan, List.pairwise_filterMap]
    refine ascending.imp fun {i j} hij x hx y hy => ?_
    rw [((spanAt_eq_some store i x).1 hx).1, ((spanAt_eq_some store j y).1 hy).1]
    exact hij
  · simp only [buildPlan, List.mem_filterMap, spanAt_eq_some, mem_pathIndices]
    constructor
    · rintro ⟨j, hj, rfl, hspan⟩
      exact ⟨hj, hspan⟩
    · rintro ⟨hj, hspan⟩
      exact ⟨sp.index, hj, rfl, hspan⟩
  · rw [buildPlan, mem_patternsNamed]
    simp only [mem_pathIndices]

end Sys2Proof.Machine

/-! PROOFS. The chains of a plan (R74 to R76): O50. -/

namespace Sys2Proof.Machine

/-! ### Equal backgrounds -/

theorem March.sameBackground_iff (m n : March) : m.sameBackground n = true ↔
    m.background = n.background ∧ (m.background = .random → m.seed = n.seed)
      ∧ (m.background = .stored → m.pattern = n.pattern) := by
  simp only [March.sameBackground, Bool.and_eq_true, Bool.or_eq_true, beq_iff_eq, bne_iff_ne, ne_eq, and_assoc,
    Decidable.imp_iff_not_or]

theorem March.sameBackground_refl (m : March) : m.sameBackground m = true :=
  (m.sameBackground_iff m).2 ⟨rfl, fun _ => rfl, fun _ => rfl⟩

theorem March.sameBackground_trans {l m n : March} (h : l.sameBackground m = true) (h' : m.sameBackground n = true) :
    l.sameBackground n = true := by
  rw [March.sameBackground_iff] at h h' ⊢
  obtain ⟨hb, hs, hp⟩ := h
  obtain ⟨hb', hs', hp'⟩ := h'
  exact ⟨hb.trans hb', fun hr => (hs hr).trans (hs' (hb ▸ hr)), fun hr => (hp hr).trans (hp' (hb ▸ hr))⟩

theorem March.sameBackground_comm {m n : March} (h : m.sameBackground n = true) : n.sameBackground m = true := by
  rw [March.sameBackground_iff] at h ⊢
  obtain ⟨hb, hs, hp⟩ := h
  exact ⟨hb.symm, fun hr => (hs (hb ▸ hr)).symm, fun hr => (hp (hb ▸ hr)).symm⟩

/-! ### The chain up to an element -/

section

variable (store : Vector Element 64) (spans : List RepeatSpan)

/-- R74's conditions on two neighbouring MARCH elements, the first of which ends a part of a chain. -/
structure Joins (chain : List Nat) (j : Nat) (m n : March) : Prop where
  here : elementAt store j = .march m
  next : elementAt store (j + 1) = .march n
  asked : m.joined = true
  same : m.sameBackground n = true
  span : spanOf spans (j + 1) = spanOf spans j
  depth : (chainOps store chain).length + n.ops.length ≤ 8

/-- A chain as it is built, up to the element it has reached. -/
inductive ChainTo : List Nat → Nat → Prop where
  | single (j : Nat) (m : March) (hm : elementAt store j = .march m) (hops : m.ops.length ≤ 8) : ChainTo [j] j
  | join {chain : List Nat} {j : Nat} (m n : March) (hc : ChainTo chain j) (hj : Joins store spans chain j m n) :
      ChainTo (chain ++ [j + 1]) (j + 1)

end

section

variable {store : Vector Element 64} {spans : List RepeatSpan} {chain : List Nat} {last : Nat}

/-- A chain is the run of indices from its first element to its last. -/
theorem ChainTo.run (h : ChainTo store spans chain last) :
    ∃ (first k : Nat), chain = List.range' first (k + 1) ∧ last = first + k := by
  induction h with
  | single j m hm hops => exact ⟨j, 0, rfl, rfl⟩
  | join m n hc hj ih =>
    obtain ⟨first, k, rfl, rfl⟩ := ih
    exact ⟨first, k + 1, List.range'_1_concat.symm, rfl⟩

theorem ChainTo.march (h : ChainTo store spans chain last) : ∃ m : March, elementAt store last = .march m := by
  cases h with
  | single _ m hm _ => exact ⟨m, hm⟩
  | join m n hc hj => exact ⟨n, hj.next⟩

theorem ChainTo.ops_length (h : ChainTo store spans chain last) : (chainOps store chain).length ≤ 8 := by
  cases h with
  | single _ m hm hops => rwa [chainOps_singleton_length hm]
  | join m n hc hj =>
    rw [chainOps_append, List.length_append, chainOps_singleton_length hj.next]
    exact hj.depth

/-- Every element of a chain has the first one's background and its repeat span. -/
theorem ChainTo.alike (h : ChainTo store spans chain last) (first : Nat) (hfirst : chain.head? = some first) :
    ∀ j ∈ chain, spanOf spans j = spanOf spans first ∧ ∃ m n : March, elementAt store first = .march m
      ∧ elementAt store j = .march n ∧ m.sameBackground n = true := by
  induction h with
  | single j m hm hops =>
    cases hfirst
    intro i hi
    cases List.mem_singleton.1 hi
    exact ⟨rfl, m, m, hm, hm, m.sameBackground_refl⟩
  | @join chain j m n hc hj ih =>
    obtain ⟨f, k, rfl, rfl⟩ := hc.run
    have hfirst' : (List.range' f (k + 1)).head? = some first := hfirst
    have ih := ih hfirst'
    intro i hi
    rcases List.mem_append.1 hi with hi | hi
    · exact ih i hi
    · cases List.mem_singleton.1 hi
      obtain ⟨hspan, l, m', hl, hm', hsame⟩ := ih (f + k) (by simp)
      cases hj.here.symm.trans hm'
      exact ⟨hj.span.trans hspan, l, n, hl, hj.next, March.sameBackground_trans hsame hj.same⟩

/-- The part of a chain up to an inner element is followed by a join that holds. -/
theorem ChainTo.inner (h : ChainTo store spans chain last) : ∀ j ∈ chain, j < last →
    ∃ m n : March, Joins store spans (chain.filter fun i => decide (i ≤ j)) j m n := by
  induction h with
  | single j m hm hops =>
    intro i hi hlt
    cases List.mem_singleton.1 hi
    omega
  | @join chain j m n hc hj ih =>
    intro i hi hlt
    have hle : ∀ x ∈ chain, x ≤ j := by
      obtain ⟨f, k, rfl, rfl⟩ := hc.run
      intro x hx
      rw [List.mem_range'_1] at hx
      omega
    have hcut : (chain ++ [j + 1]).filter (fun x => decide (x ≤ i)) = chain.filter fun x => decide (x ≤ i) := by
      rw [List.filter_append, List.filter_singleton, decide_eq_false (by omega), cond_false, List.append_nil]
    rw [hcut]
    rcases List.mem_append.1 hi with hi | hi
    · rcases Nat.lt_or_eq_of_le (hle i hi) with hij | rfl
      · exact ih i hi hij
      · rw [List.filter_eq_self.2 fun x hx => decide_eq_true (hle x hx)]
        exact ⟨m, n, hj⟩
    · cases List.mem_singleton.1 hi
      omega

theorem ChainTo.filter_last (h : ChainTo store spans chain last) : (chain.filter fun i => decide (i ≤ last)) = chain := by
  obtain ⟨f, k, rfl, rfl⟩ := h.run
  refine List.filter_eq_self.2 fun x hx => decide_eq_true ?_
  rw [List.mem_range'_1] at hx
  omega

theorem joinHolds_iff (finish : Nat) (j : Nat) : JoinHolds store spans finish chain j ↔ j + 1 ≤ finish ∧
    ∃ m n : March, Joins store spans (chain.filter fun i => decide (i ≤ j)) j m n := by
  constructor
  · rintro ⟨m, n, hm, hjoined, hle, hn, hb, hs, hp, hspan, hdepth⟩
    exact ⟨hle, m, n, hm, hn, hjoined, March.sameBackground_comm ((n.sameBackground_iff m).2
      ⟨hb, fun h => hs (hb ▸ h), fun h => hp (hb ▸ h)⟩), hspan, hdepth⟩
  · rintro ⟨hle, m, n, hm, hn, hjoined, hsame, hspan, hdepth⟩
    obtain ⟨hb, hs, hp⟩ := (n.sameBackground_iff m).1 (March.sameBackground_comm hsame)
    exact ⟨m, n, hm, hjoined, hle, hn, hb, fun h => hs (hb.trans h), fun h => hp (hb.trans h), hspan, hdepth⟩

/-- Before a MARCH element, a chain whose last element asks for the join is joined exactly when R74's conditions hold. -/
theorem joinHonoured_iff (h : ChainTo store spans chain last) (n : March) (hn : elementAt store (last + 1) = .march n)
    (hask : (elementAt store last).asksJoin = true) :
    joinHonoured store spans chain (last + 1) n = true ↔ ∃ m : March, Joins store spans chain last m n := by
  obtain ⟨f, k, hchain, hlast⟩ := h.run
  have hhead : chain.head? = some f := by rw [hchain]; rfl
  obtain ⟨-, first, m, hf, hm, hsame⟩ := h.alike f hhead last (by rw [hchain, hlast]; simp)
  rw [hm] at hask
  unfold joinHonoured
  rw [hhead, Option.map_some, hf]
  simp only [Bool.and_eq_true, beq_iff_eq, decide_eq_true_eq, Nat.add_sub_cancel]
  constructor
  · rintro ⟨⟨hb, hspan⟩, hdepth⟩
    exact ⟨m, hm, hn, hask, March.sameBackground_trans (March.sameBackground_comm hsame) hb, hspan.symm, hdepth⟩
  · rintro ⟨m', hm', -, -, hb, hspan, hdepth⟩
    cases hm.symm.trans hm'
    exact ⟨⟨March.sameBackground_trans hsame hb, hspan.symm⟩, hdepth⟩

end

/-! ### Forming the chains -/

/-- A chain that is open, if any, goes before the chains of the rest, and the join it asks for is ignored. -/
def closeOpen : Option (List Nat) → List (List Nat) × Nat → List (List Nat) × Nat
  | none, after => after
  | some chain, after => (chain :: after.1, after.2 + 1)

/-- The chains of the rest of a path after a chain's last element, which asks for a join or not. -/
def formAfter (store : Vector Element 64) (spans : List RepeatSpan) (rest chain : List Nat) (joined : Bool) :
    List (List Nat) × Nat :=
  if joined then formChains store spans rest (some chain)
  else (chain :: (formChains store spans rest none).1, (formChains store spans rest none).2)

section

variable {store : Vector Element 64} {spans : List RepeatSpan}

theorem formChains_join {j : Nat} {rest chain : List Nat} {m : March} (hm : elementAt store j = .march m)
    (h : joinHonoured store spans chain j m = true) :
    formChains store spans (j :: rest) (some chain) = formAfter store spans rest (chain ++ [j]) m.joined := by
  rw [formChains]
  simp only [hm, h, if_true, Option.getD_some]
  rfl

theorem formChains_begin {j : Nat} {rest : List Nat} {m : March} {open_ : Option (List Nat)}
    (hm : elementAt store j = .march m) (h : ∀ chain, open_ = some chain → joinHonoured store spans chain j m = false) :
    formChains store spans (j :: rest) open_ = closeOpen open_ (formAfter store spans rest [j] m.joined) := by
  rw [formChains]
  cases open_ with
  | none =>
    simp only [hm]
    rfl
  | some chain =>
    simp only [hm, h chain rfl]
    rfl

theorem formChains_other {j : Nat} {rest : List Nat} {open_ : Option (List Nat)}
    (h : (elementAt store j).isMarch = false) :
    formChains store spans (j :: rest) open_ = closeOpen open_ (formChains store spans rest none) := by
  rw [formChains]
  cases he : elementAt store j
  case march m => exact nomatch (he ▸ h : (Element.march m).isMarch = false)
  all_goals
    simp only
    cases open_ <;> rfl

end

/-! ### What is formed -/

/-- A chain's last element asks for a join. -/
def lastAsks (store : Vector Element 64) (chain : List Nat) : Bool :=
  match chain.getLast? with
  | some j => (elementAt store j).asksJoin
  | none => false

/-- A whole chain: one that does not go on past its last element. -/
def ChainWhole (store : Vector Element 64) (spans : List RepeatSpan) (finish : Nat) (chain : List Nat) : Prop :=
  ∃ last : Nat, ChainTo store spans chain last ∧ last ≤ finish
    ∧ ¬ (last + 1 ≤ finish ∧ ∃ m n : March, Joins store spans chain last m n)

/-- The open chain, if any, has come to the element before `j` and asks for a join there. -/
def OpenBefore (store : Vector Element 64) (spans : List RepeatSpan) (open_ : Option (List Nat)) (j : Nat) : Prop :=
  ∀ chain : List Nat, open_ = some chain →
    ∃ last : Nat, last + 1 = j ∧ ChainTo store spans chain last ∧ (elementAt store last).asksJoin = true

/-- The chains and ignored joins formed of a path behind an open chain. -/
structure Formed (store : Vector Element 64) (spans : List RepeatSpan) (finish : Nat) (path : List Nat)
    (open_ : Option (List Nat)) (formed : List (List Nat) × Nat) : Prop where
  flatten : formed.1.flatten = open_.getD [] ++ path.filter fun j => (elementAt store j).isMarch
  whole : ∀ chain ∈ formed.1, ChainWhole store spans finish chain
  ignored : formed.2 = formed.1.countP (lastAsks store)

section

variable {store : Vector Element 64} {spans : List RepeatSpan} {finish : Nat}

theorem ChainTo.lastAsks_eq {chain : List Nat} {last : Nat} (h : ChainTo store spans chain last) :
    lastAsks store chain = (elementAt store last).asksJoin := by
  have hlast : chain.getLast? = some last := by
    cases h with
    | single _ m hm hops => rfl
    | join m n hc hj => exact List.getLast?_concat
  rw [lastAsks, hlast]

/-- Closing the open chain, whose join does not hold. -/
theorem Formed.close {path : List Nat} {open_ : Option (List Nat)} {after : List (List Nat) × Nat} {j : Nat}
    (h : Formed store spans finish path none after) (hopen : OpenBefore store spans open_ j) (hj : j ≤ finish + 1)
    (hno : ∀ chain, open_ = some chain → ¬ (j ≤ finish ∧ ∃ (last : Nat) (m n : March), last + 1 = j ∧
      Joins store spans chain last m n)) : Formed store spans finish path open_ (closeOpen open_ after) := by
  cases open_ with
  | none => exact h
  | some chain =>
    obtain ⟨last, rfl, hc, hask⟩ := hopen chain rfl
    refine ⟨?_, ?_, ?_⟩
    · simpa [closeOpen] using h.flatten
    · intro other hother
      rcases List.mem_cons.1 hother with rfl | hother
      · exact ⟨last, hc, by omega, fun ⟨hle, m, n, hjoin⟩ => hno _ rfl ⟨hle, last, m, n, rfl, hjoin⟩⟩
      · exact h.whole other hother
    · rw [closeOpen, h.ignored, List.countP_cons_of_pos (hc.lastAsks_eq.trans hask)]

/-- The chains formed after an element of a chain. -/
theorem formAfter_formed {rest chain : List Nat} {j : Nat} {m : March} (hc : ChainTo store spans chain j)
    (hm : elementAt store j = .march m) (hj : j ≤ finish)
    (ih : ∀ open_ : Option (List Nat), OpenBefore store spans open_ (j + 1) →
      Formed store spans finish rest open_ (formChains store spans rest open_)) :
    Formed store spans finish rest (some chain) (formAfter store spans rest chain m.joined) := by
  have hask : (elementAt store j).asksJoin = m.joined := by rw [hm]; rfl
  rw [formAfter]
  cases hjoined : m.joined with
  | true =>
    refine ih (some chain) fun _ h => ?_
    cases h
    exact ⟨j, rfl, hc, hask.trans hjoined⟩
  | false =>
    have hrest := ih none nofun
    rw [if_neg (by decide)]
    refine ⟨?_, ?_, ?_⟩
    · simpa using hrest.flatten
    · intro other hother
      rcases List.mem_cons.1 hother with rfl | hother
      · refine ⟨j, hc, hj, fun ⟨_, m', n, hjoin⟩ => ?_⟩
        cases hm.symm.trans hjoin.here
        exact nomatch hjoined.symm.trans hjoin.asked
      · exact hrest.whole other hother
    · rw [hrest.ignored, List.countP_cons_of_neg]
      rw [hc.lastAsks_eq, hask, hjoined]
      decide

theorem formChains_formed (hops : ∀ (j : Nat) (m : March), elementAt store j = .march m → m.ops.length ≤ 8) (n j : Nat)
    (open_ : Option (List Nat)) (hend : j + n = finish + 1) (hopen : OpenBefore store spans open_ j) :
    Formed store spans finish (List.range' j n) open_ (formChains store spans (List.range' j n) open_) := by
  induction n generalizing j open_ with
  | zero =>
    have hempty : formChains store spans [] open_ = closeOpen open_ ([], 0) := by cases open_ <;> rfl
    rw [List.range'_zero, hempty]
    exact Formed.close ⟨rfl, nofun, rfl⟩ hopen (by omega) fun _ _ ⟨hle, _⟩ => by omega
  | succ n ih =>
    have hnext (open_ : Option (List Nat)) := ih (j + 1) open_ (by omega)
    rw [List.range'_succ]
    cases hmarch : (elementAt store j).isMarch with
    | false =>
      rw [formChains_other hmarch]
      refine Formed.close ⟨?_, (hnext none nofun).whole, (hnext none nofun).ignored⟩ hopen (by omega) ?_
      · rw [List.filter_cons_of_neg (by simp [hmarch])]
        exact (hnext none nofun).flatten
      · rintro chain - ⟨-, last, m, m', rfl, hjoin⟩
        rw [hjoin.next] at hmarch
        exact nomatch hmarch
    | true =>
      obtain ⟨m, hm⟩ : ∃ m : March, elementAt store j = .march m := by
        cases he : elementAt store j <;> simp [he, Element.isMarch] at hmarch ⊢
      have hfilter : (j :: List.range' (j + 1) n).filter (fun j => (elementAt store j).isMarch)
          = j :: (List.range' (j + 1) n).filter fun j => (elementAt store j).isMarch := List.filter_cons_of_pos hmarch
      by_cases hjoin : ∃ chain, open_ = some chain ∧ joinHonoured store spans chain j m = true
      · obtain ⟨chain, rfl, hjoin⟩ := hjoin
        obtain ⟨last, rfl, hc, hask⟩ := hopen chain rfl
        obtain ⟨l, hjoins⟩ := (joinHonoured_iff hc m hm hask).1 hjoin
        have h := formAfter_formed (.join l m hc hjoins) hm (by omega) hnext
        rw [formChains_join hm hjoin]
        exact ⟨by rw [h.flatten, hfilter]; simp, h.whole, h.ignored⟩
      · have hrefused : ∀ chain, open_ = some chain → joinHonoured store spans chain j m = false := fun chain hchain =>
          Bool.eq_false_iff.2 fun h => hjoin ⟨chain, hchain, h⟩
        have h := formAfter_formed (.single j m hm (hops j m hm)) hm (by omega) hnext
        rw [formChains_begin hm hrefused]
        refine Formed.close ⟨by rw [h.flatten, hfilter]; rfl, h.whole, h.ignored⟩ hopen (by omega) ?_
        rintro chain hchain ⟨-, last, l, m', rfl, hjoins⟩
        obtain ⟨last', hlast, hc, hask⟩ := hopen chain hchain
        obtain rfl := Nat.succ.inj hlast
        cases hm.symm.trans hjoins.next
        exact nomatch (hrefused chain hchain).symm.trans ((joinHonoured_iff hc m hm hask).2 ⟨l, hjoins⟩)

/-! ### Joins ignored -/

/-- Some chain holds an element and the one after it. -/
def joinedIn (chains : List (List Nat)) (j : Nat) : Bool :=
  chains.any fun chain => chain.contains j && chain.contains (j + 1)

theorem joinedIn_iff (chains : List (List Nat)) (j : Nat) :
    joinedIn chains j = true ↔ ∃ chain ∈ chains, j ∈ chain ∧ j + 1 ∈ chain := by
  simp [joinedIn]

/-- Of a chain that shares no element with another, only the last element may ask for a join that is ignored. -/
theorem countP_ignored {chains : List (List Nat)} {chain : List Nat} {last : Nat} (hmem : chain ∈ chains)
    (hc : ChainTo store spans chain last) (hdisjoint : ∀ other ∈ chains, other ≠ chain → chain.Disjoint other) :
    (chain.countP fun j => (elementAt store j).asksJoin && !joinedIn chains j)
      = if lastAsks store chain then 1 else 0 := by
  obtain ⟨first, k, hrun, hlast⟩ := hc.run
  have hsplit : chain = List.range' first k ++ [last] := by rw [hrun, List.range'_1_concat, hlast]
  have hinner : (List.range' first k).countP (fun j => (elementAt store j).asksJoin && !joinedIn chains j) = 0 := by
    refine List.countP_eq_zero.2 fun j hj => ?_
    rw [List.mem_range'_1] at hj
    have : joinedIn chains j = true := (joinedIn_iff chains j).2
      ⟨chain, hmem, by rw [hrun, List.mem_range'_1]; omega, by rw [hrun, List.mem_range'_1]; omega⟩
    simp [this]
  have hend : joinedIn chains last = false := by
    rw [Bool.eq_false_iff, Ne, joinedIn_iff]
    rintro ⟨other, hother, hl, hnext⟩
    have hin : last ∈ chain := by rw [hsplit]; simp
    obtain rfl : other = chain := Classical.not_not.1 fun hne => hdisjoint other hother hne hin hl
    rw [hrun, List.mem_range'_1] at hnext
    omega
  conv_lhs => rw [hsplit]
  rw [List.countP_append, hinner, Nat.zero_add, List.countP_singleton, hend, hc.lastAsks_eq]
  simp

theorem sum_map_ite_eq_countP {α : Type} (l : List α) (p : α → Bool) :
    (l.map fun x => if p x then 1 else 0).sum = l.countP p := by
  induction l with
  | nil => rfl
  | cons x l ih => rw [List.map_cons, List.sum_cons, ih, List.countP_cons, Nat.add_comm]

/-- The joins ignored are the joined flags whose next element is in no chain with them. -/
theorem Formed.joinsIgnored {path : List Nat} {formed : List (List Nat) × Nat}
    (h : Formed store spans finish path none formed) (hpath : path.Nodup) :
    formed.2 = (path.filter fun j => (elementAt store j).asksJoin && !joinedIn formed.1 j).length := by
  have hflat : formed.1.flatten = path.filter fun j => (elementAt store j).isMarch := h.flatten
  have hdisjoint : formed.1.Pairwise List.Disjoint :=
    (List.nodup_flatten.1 (hflat ▸ hpath.filter _)).2
  have : Std.Symm (List.Disjoint (α := Nat)) := ⟨fun _ _ hd => hd.symm⟩
  have hmarch (j : Nat) (hask : (elementAt store j).asksJoin = true) : (elementAt store j).isMarch = true := by
    cases he : elementAt store j <;> simp [he, Element.asksJoin, Element.isMarch] at hask ⊢
  calc formed.2 = (formed.1.map fun chain => if lastAsks store chain then 1 else 0).sum := by
        rw [h.ignored, sum_map_ite_eq_countP]
    _ = (formed.1.map fun chain => chain.countP fun j => (elementAt store j).asksJoin && !joinedIn formed.1 j).sum := by
        refine congrArg List.sum (List.map_congr_left fun chain hchain => ?_)
        obtain ⟨last, hc, -⟩ := h.whole chain hchain
        exact (countP_ignored hchain hc fun other hother hne =>
          hdisjoint.forall hchain hother hne.symm).symm
    _ = formed.1.flatten.countP fun j => (elementAt store j).asksJoin && !joinedIn formed.1 j :=
        List.countP_flatten.symm
    _ = path.countP fun j => (elementAt store j).asksJoin && !joinedIn formed.1 j := by
        rw [hflat, List.countP_filter]
        refine List.countP_congr fun j _ => ?_
        simpa using fun hask _ => hmarch j hask
    _ = _ := List.countP_eq_length_filter

end

/-! ### A whole chain -/

section

variable {store : Vector Element 64} {spans : List RepeatSpan} {finish : Nat} {chain : List Nat}

/-- A whole chain holds the next element exactly when the join to it holds. -/
theorem ChainWhole.next_mem (h : ChainWhole store spans finish chain) (j : Nat) (hj : j ∈ chain) :
    j + 1 ∈ chain ↔ JoinHolds store spans finish chain j := by
  obtain ⟨last, hc, hfinish, hno⟩ := h
  obtain ⟨first, k, hrun, hlast⟩ := hc.run
  have mem (i : Nat) : i ∈ chain ↔ first ≤ i ∧ i ≤ last := by
    rw [hrun, List.mem_range'_1]
    omega
  have hbound := (mem j).1 hj
  rw [joinHolds_iff]
  constructor
  · intro hnext
    have := (mem (j + 1)).1 hnext
    exact ⟨by omega, hc.inner j hj (by omega)⟩
  · rintro ⟨hle, hjoins⟩
    rcases Nat.lt_or_eq_of_le hbound.2 with hlt | rfl
    · exact (mem (j + 1)).2 (by omega)
    · rw [hc.filter_last] at hjoins
      exact absurd ⟨hle, hjoins⟩ hno

end

/-- Settles O50: `validate_answers` for validation, `buildPlan_describes` and `formChains_formed` for the plan. -/
theorem chainsPartitionThePath : Obligations.ChainsPartitionThePath := by
  refine ⟨fun store start hstart => ?_, March.slots_eq, fun store i chain => ⟨rfl, fun hm => ?_, fun m hm => ?_⟩,
    fun image start finish => ?_⟩
  · obtain ⟨hok, herror⟩ := validate_answers store start
    have hend : start + (64 - start) = 64 := by omega
    rw [hend] at hok herror
    simp only [Nat.lt_succ_iff] at hok herror
    exact ⟨hok, herror⟩
  · rw [chainOps_cons, opsAt_of_not_march hm]
    rfl
  · rw [chainOps_cons, opsAt_march hm]
  · intro store plan onPath
    have hops (j : Nat) (m : March) (hm : elementAt store j = .march m) : m.ops.length ≤ 8 :=
      (storeOf_march_ops image j m hm).trans (by decide)
    have hformed : Formed store plan.spans finish onPath none (plan.chains, plan.joinsIgnored) := by
      by_cases hle : start ≤ finish + 1
      · exact formChains_formed hops (finish + 1 - start) start none (by omega) nofun
      · have hempty : pathIndices start finish = [] := by
          rw [pathIndices, Nat.sub_eq_zero_of_le (by omega)]
          rfl
        have hpath : onPath = [] := hempty
        simp only [plan, buildPlan, hempty, hpath]
        exact ⟨rfl, nofun, rfl⟩
    refine ⟨buildPlan_describes store start finish, hformed.flatten, fun chain hchain => ?_,
      hformed.joinsIgnored (List.nodup_range' ..)⟩
    have hwhole := hformed.whole chain hchain
    have hnext := hwhole.next_mem
    obtain ⟨last, hc, -⟩ := hwhole
    obtain ⟨f, k, hrun, -⟩ := hc.run
    refine ⟨by simp [hrun], hc.ops_length, hnext, fun first hfirst => ⟨?_, fun j hj => ?_⟩⟩
    · obtain rfl : f = first := by simpa [hrun, List.range'_succ] using hfirst
      rw [hrun, List.length_range']
    · obtain ⟨hspan, m, n, hm, hn, hsame⟩ := hc.alike first hfirst j hj
      exact ⟨hspan, m, n, hm, hn, (m.sameBackground_iff n).1 hsame⟩

end Sys2Proof.Machine

/-! PROOFS. The decoding of a settings image (R8, R67, R70, R108, R161, R164): O7, first part. -/

namespace Sys2Proof.Machine

/-! ### The clamps of a channel's section (Tables 10.3 and 10.5) -/

/-- The first `k` numbers of a test below `c`. -/
theorem mem_take_filter_range (p : Nat → Bool) (c k n : Nat) : n ∈ ((List.range c).filter p).take k ↔
    n < c ∧ p n = true ∧ ((List.range n).filter p).length < k := by
  by_cases hn : n < c ∧ p n = true
  · obtain ⟨m, rfl⟩ : ∃ m, c = n + (m + 1) := ⟨c - n - 1, by omega⟩
    have hsplit : (List.range (n + (m + 1))).filter p =
        (List.range n).filter p ++ n :: ((List.range m).map fun i => n + (i + 1)).filter p := by
      rw [List.range_add, List.filter_append, List.range_succ_eq_map, List.map_cons, List.map_map, Nat.add_zero,
        List.filter_cons_of_pos hn.2]
      rfl
    rw [hsplit, List.take_append, List.mem_append]
    simp only [hn, true_and]
    constructor
    · rintro (h | h)
      · have := List.mem_range.1 (List.mem_filter.1 (List.mem_of_mem_take h)).1
        omega
      · by_contra hle
        rw [Nat.sub_eq_zero_of_le (by omega)] at h
        exact nomatch h
    · intro h
      obtain ⟨j, hj⟩ : ∃ j, k - ((List.range n).filter p).length = j + 1 := ⟨k - ((List.range n).filter p).length - 1, by omega⟩
      rw [hj]
      exact .inr List.mem_cons_self
  · refine iff_of_false (fun h => hn ?_) fun h => hn ⟨h.1, h.2.1⟩
    have hmem := List.mem_filter.1 (List.mem_of_mem_take h)
    exact ⟨List.mem_range.1 hmem.1, hmem.2⟩

theorem clampMask_bit_iff (c recorded n : Nat) (hn : n < 10) : (clampMask c recorded).getLsbD n = true ↔
    n < c ∧ recorded.testBit n = true ∧ ((List.range n).filter recorded.testBit).length < 3 := by
  have hzero : (0 : Column).getLsbD n = false := BitVec.getLsbD_zero
  rw [clampMask, foldl_position_bit _ _ n hn, hzero, Bool.false_or, decide_eq_true_iff, Config.spanDepth,
    mem_take_filter_range]

theorem byteAt_lt (bytes : List Byte) (i : Nat) : byteAt bytes i < 256 := BitVec.isLt _

theorem number16_lt (bytes : List Byte) (i : Nat) : number16 bytes i < 65536 := by
  have h := byteAt_lt bytes i
  have h' := byteAt_lt bytes (i + 1)
  rw [number16]
  omega

theorem of_getElem?_map_range {α : Type} {f : Nat → α} {n j : Nat} {x : α} (h : ((List.range n).map f)[j]? = some x) :
    j < n ∧ x = f j := by
  rw [List.getElem?_map] at h
  obtain ⟨i, hi, rfl⟩ := Option.map_eq_some_iff.1 h
  obtain ⟨hlt, rfl⟩ := List.getElem?_eq_some_iff.1 hi
  rw [List.getElem_range]
  exact ⟨by simpa using hlt, rfl⟩

theorem settingsOf_decoded (image : List Byte) (ch : Chan) : SettingsDecoded image ch (settingsOf image ch) := by
  refine ⟨rfl, rfl, rfl, fun n hn => ⟨clampMask_bit_iff _ _ n hn, clampMask_bit_iff _ _ n hn⟩, ?_, ?_, ?_, rfl, ?_,
    fun j m hm => ?_⟩
  · simp only [settingsOf, sectionBase]
    split_ifs <;> omega
  · simp only [settingsOf, sectionBase, number16, Nat.add_assoc]
    split_ifs <;> omega
  · simp only [settingsOf, sectionBase, number16, Nat.add_assoc]
    split_ifs <;> omega
  · simp only [settingsOf, sectionBase, List.length_map, List.length_range]
    split_ifs <;> omega
  · obtain ⟨-, rfl⟩ := of_getElem?_map_range hm
    have hplace : sectionBase ch + 18 + 3 * j = 16 + 48 * ch.val + (18 + 3 * j) := Nat.add_assoc ..
    constructor
    · show (BitVec.ofNat 4 (byteAt image (sectionBase ch + 17 + 3 * j))).toNat = _
      rw [BitVec.toNat_ofNat, Nat.add_assoc]
      rfl
    · show (BitVec.ofNat 16 (number16 image (sectionBase ch + 18 + 3 * j))).toNat = _
      rw [BitVec.toNat_ofNat, Nat.mod_eq_of_lt (number16_lt image _), hplace]
      rfl

/-! ### Program records (Table 10.4) -/

theorem slotOf_eq (code : Nat) : slotOf code = if code = 0 then none
    else [Op.readTrue, Op.readInverse, Op.writeTrue, Op.writeInverse][code - 1]? := by
  match code with
  | 0 | 1 | 2 | 3 | 4 => rfl
  | n + 5 => simp [slotOf]

theorem backgroundOf_eq (code : Nat) : backgroundOf code =
    [BackgroundKind.solid, .checker, .rowStripe, .columnStripe, .laneWalk, .stored, .random][code]? := by
  match code with
  | 0 | 1 | 2 | 3 | 4 | 5 | 6 => rfl
  | n + 7 => simp [backgroundOf]

theorem max_one_eq (n : Nat) : max n 1 = if n = 0 then 1 else n := by
  split_ifs <;> omega

theorem elementOf_decoded (image : List Byte) (place : Nat) : ElementDecoded image place (elementOf image place) := by
  have hkind (n : Nat) (h : byteAt image (place + 0) = n) : byteAt image place = n := h
  refine ⟨fun background h hb => ⟨marchAt image place background, ?_, rfl, rfl, rfl, ?_, rfl, ?_, rfl⟩, fun h hb => ?_,
    fun h => ?_, fun h => ?_, fun h => ?_, fun h => ?_, fun h => ?_⟩
  · rw [elementOf, hkind 0 h, if_pos rfl, backgroundOf_eq, hb]
  · simp only [marchAt, slotOf_eq]
    rfl
  · rw [marchAt, BitVec.toNat_ofNat, Nat.mod_eq_of_lt (Nat.max_lt.2 ⟨number16_lt image _, by decide⟩), max_one_eq]
    rfl
  · have hnone : backgroundOf (byteAt image (place + 7)) = none := by
      rw [backgroundOf_eq, List.getElem?_eq_none (show 7 ≤ byteAt image (place + 7) from hb)]
    rw [elementOf, hkind 0 h, if_pos rfl, hnone]
  · rw [elementOf, hkind 1 h, if_neg (by decide), if_pos rfl, max_one_eq]
    rfl
  · rw [elementOf, hkind 2 h]
    rfl
  · rw [elementOf, hkind 3 h]
    rfl
  · rw [elementOf, hkind 4 h]
    rfl
  · have h : 4 < byteAt image place := h
    simp only [elementOf]
    rw [if_neg (by omega), if_neg (by omega), if_neg (by omega), if_neg (by omega), if_neg (by omega)]

theorem storeOf_decoded (image : List Byte) (i : Fin 64) :
    if i.val < byteAt image 8 then ElementDecoded image (208 + 12 * i.val) (storeOf image)[i.val]
    else (storeOf image)[i.val] = .empty := by
  rw [storeOf, Vector.getElem_ofFn]
  by_cases h : i.val < byteAt image 8
  · rw [if_pos h, if_pos (show (⟨i.val, i.isLt⟩ : Fin 64).val < programCount image from h)]
    exact elementOf_decoded image _
  · rw [if_neg h, if_neg (show ¬ (⟨i.val, i.isLt⟩ : Fin 64).val < programCount image from h)]

/-! ### Patterns and carried records -/

theorem wordAt_bit (bytes : List Byte) (i n : Nat) (hn : n < 72) :
    (wordAt bytes i).getLsbD n = (byteAt bytes (i + n / 8)).testBit (n % 8) := by
  have hlane (k : Nat) : (BitVec.ofNat 72 (byteAt bytes (i + k) * 2 ^ (8 * k))).getLsbD n =
      (decide (k = n / 8) && (byteAt bytes (i + k)).testBit (n % 8)) := by
    rw [BitVec.getLsbD_ofNat, Nat.mul_comm, Nat.testBit_two_pow_mul, decide_eq_true hn, Bool.true_and]
    by_cases hk : k = n / 8
    · subst hk
      rw [decide_eq_true (by omega), decide_eq_true rfl, show n - 8 * (n / 8) = n % 8 by omega]
    · rw [decide_eq_false hk, Bool.false_and, Bool.and_eq_false_iff, decide_eq_false_iff_not]
      by_cases hle : 8 * k ≤ n
      · refine .inr (Nat.testBit_lt_two_pow ((byteAt_lt bytes _).trans_le ?_))
        exact Nat.pow_le_pow_right (n := 2) (by decide) (show 8 ≤ n - 8 * k by omega)
      · exact .inl (by omega)
  have hfold (l : List Nat) (w : Word) :
      (l.foldl (fun w k => w ||| BitVec.ofNat 72 (byteAt bytes (i + k) * 2 ^ (8 * k))) w).getLsbD n =
        (w.getLsbD n || decide (n / 8 ∈ l) && (byteAt bytes (i + n / 8)).testBit (n % 8)) := by
    induction l generalizing w with
    | nil => simp
    | cons k l ih =>
      rw [List.foldl_cons, ih, BitVec.getLsbD_or, hlane]
      by_cases hk : k = n / 8
      · subst hk
        cases w.getLsbD n <;> cases (byteAt bytes (i + n / 8)).testBit (n % 8) <;> simp
      · have hk' : ¬ n / 8 = k := fun e => hk e.symm
        simp [hk, hk']
  rw [wordAt, hfold, decide_eq_true (by rw [List.mem_range]; omega)]
  have hzero : (0 : Word).getLsbD n = false := BitVec.getLsbD_zero
  rw [hzero, Bool.false_or, Bool.true_and]

theorem patternsOf_decoded (image : List Byte) : PatternsDecoded image (patternsOf image) := by
  refine ⟨by rw [patternsOf, List.length_map, List.length_range]; rfl, fun p words hp w n hn => ?_⟩
  obtain ⟨-, rfl⟩ := of_getElem?_map_range hp
  rw [Fin.getElem_fin, patternAt, Vector.getElem_ofFn, wordAt_bit _ _ n hn]
  rfl

theorem carriedOf_decoded (image : List Byte) : CarriedDecoded image (carriedOf image) := by
  refine ⟨by rw [carriedOf, List.length_map, List.length_range]; rfl, fun n k hk => ?_⟩
  obtain ⟨-, rfl⟩ := of_getElem?_map_range hk
  exact ⟨rfl, rfl, rfl, rfl, rfl, rfl⟩

end Sys2Proof.Machine

/-! PROOFS. The taking of one carried record (R5, R7, R38, R166): O7, second part. -/

namespace Sys2Proof.Machine

theorem State.anyRepair_iff (s : State) (p : Repair → Bool) : s.anyRepair p = true ↔
    ∃ e : Repair, (∃ i : Fin 64, s.table[i.val].repair? = some e) ∧ p e = true := by
  rw [State.anyRepair, List.any_eq_true]
  constructor
  · rintro ⟨i, -, h⟩
    rw [Fin.getElem_fin] at h
    cases he : s.table[i.val].repair? with
    | some e => exact ⟨e, ⟨i, he⟩, by rwa [he] at h⟩
    | none => exact nomatch (he ▸ h :)
  · rintro ⟨e, ⟨i, he⟩, h⟩
    refine ⟨i, List.mem_finRange i, ?_⟩
    rw [Fin.getElem_fin, he]
    exact h

/-- A valid entry of the table is of a channel's row. -/
def State.InRow (s : State) (ch : Chan) (bank : Bank) (row : Row) (e : Repair) : Prop :=
  (∃ i : Fin 64, s.table[i.val].repair? = some e) ∧ e.channel = ch ∧ e.bank = bank ∧ e.row = row

theorem State.anyRepair_ofRow_iff (s : State) (ch : Chan) (bank : Bank) (row : Row) (p : Repair → Bool) :
    (s.anyRepair fun e => e.ofRow ch bank row && p e) = true ↔ ∃ e : Repair, s.InRow ch bank row e ∧ p e = true := by
  simp only [State.anyRepair_iff, Bool.and_eq_true, Repair.ofRow_iff, State.InRow, and_assoc]

section

variable (s : State) (k : CarriedRecord)

/-- A record within its channel's geometry, for a channel to be tested, is barred by an entry of its row or by its reserve row
alone. -/
theorem State.barsCarried_eq (htest : s.chan[k.channel.val].toBeTested = true)
    (hrange : k.inRange s.chan[k.channel.val].geometry = true) : s.barsCarried k = true ↔
      (∃ e : Repair, s.InRow k.channel k.repair.bank k.repair.row e
        ∧ (e.kind.duplicates s.chan[k.channel.val] k.repair.kind = true ∨ e.isRemap ≠ k.repair.isRemap))
      ∨ ∃ reserve : Nat, k.repair.kind = .remap reserve
        ∧ reserveAt s.chan[k.channel.val].allocation.reserve k.repair.bank reserve = some .inUse := by
  have hreserve : (match k.repair.kind with
      | .remap reserve => reserveAt s.chan[k.channel.val].allocation.reserve k.repair.bank reserve == some .inUse
      | .substitute _ _ => false) = true ↔ ∃ reserve : Nat, k.repair.kind = .remap reserve
        ∧ reserveAt s.chan[k.channel.val].allocation.reserve k.repair.bank reserve = some .inUse := by
    cases k.repair.kind <;> simp
  have hexists : (∃ e : Repair, s.InRow k.channel k.repair.bank k.repair.row e
        ∧ (e.kind.duplicates s.chan[k.channel.val] k.repair.kind = true ∨ e.isRemap ≠ k.repair.isRemap)) ↔
      (∃ e : Repair, s.InRow k.channel k.repair.bank k.repair.row e
        ∧ e.kind.duplicates s.chan[k.channel.val] k.repair.kind = true)
      ∨ ∃ e : Repair, s.InRow k.channel k.repair.bank k.repair.row e ∧ (e.isRemap != k.repair.isRemap) = true := by
    simp only [bne_iff_ne, and_or_left, exists_or]
  rw [hexists, ← hreserve, ← State.anyRepair_ofRow_iff, ← State.anyRepair_ofRow_iff, ← Bool.or_eq_true, ← Bool.or_eq_true]
  unfold State.barsCarried
  dsimp only [Fin.getElem_fin]
  rw [htest, hrange, Bool.not_true, Bool.false_or, Bool.false_or]
  exact Iff.rfl

theorem State.barsCarried_of_not_tested (h : s.chan[k.channel.val].toBeTested = false) : s.barsCarried k = true := by
  unfold State.barsCarried
  dsimp only [Fin.getElem_fin]
  rw [h]
  rfl

theorem State.barsCarried_of_not_inRange (h : k.inRange s.chan[k.channel.val].geometry = false) :
    s.barsCarried k = true := by
  unfold State.barsCarried
  dsimp only [Fin.getElem_fin]
  rw [h]
  simp

variable (resumes : Chan → Bool)

theorem State.loadCarried_barred (hr : resumes k.channel = false) (h : s.barsCarried k = true) :
    State.loadCarried resumes s k = s.onSetup k.channel fun u => { u with dropped := Counter.inc u.dropped } := by
  rw [State.loadCarried, if_neg (by simp [hr]), if_pos h]
  rfl

theorem State.loadCarried_full (hr : resumes k.channel = false) (h : ∀ i : Fin 64, s.table[i.val] ≠ .free) :
    State.loadCarried resumes s k = s.onSetup k.channel fun u => { u with dropped := Counter.inc u.dropped } := by
  rw [State.loadCarried, if_neg (by simp [hr]), s.create_full k.repair h]
  split_ifs <;> rfl

theorem State.loadCarried_created {t : State} (hr : resumes k.channel = false) (h : s.barsCarried k = false)
    (ht : s.create k.repair = some t) : State.loadCarried resumes s k = t.holdReserve k.repair := by
  rw [State.loadCarried, if_neg (by simp [hr]), if_neg (by simp [h]), ht]

end

theorem CarriedRecord.inRange_iff (k : CarriedRecord) (g : Geometry) : k.inRange g = true ↔
    (k.bank < 2 ^ g.b ∧ k.row < 2 ^ g.r - g.q)
      ∧ (k.kind = 0 ∧ k.column < 2 ^ g.c ∧ k.last < 3 ∨ k.kind = 1 ∧ k.last < g.q) := by
  simp only [CarriedRecord.inRange, Bool.and_eq_true, Bool.or_eq_true, beq_iff_eq, decide_eq_true_iff, and_assoc]
  exact Iff.rfl

theorem CarriedRecord.repair_remap {k : CarriedRecord} (h : k.kind = 1) : k.repair.kind = .remap k.last := by
  rw [CarriedRecord.repair, if_pos h]

theorem CarriedRecord.repair_substitute {k : CarriedRecord} {scope : Scope} (h : k.kind = 0)
    (hs : [Scope.exact, .spanA, .spanB][k.last]? = some scope) :
    k.repair.kind = .substitute (BitVec.ofNat 10 k.column) scope := by
  have hscope : (if k.last = 0 then Scope.exact else if k.last = 1 then .spanA else .spanB) = scope := by
    match hl : k.last with
    | 0 | 1 | 2 => simpa [hl] using hs
    | n + 3 => simp [hl] at hs
  rw [CarriedRecord.repair, if_neg (by omega), hscope]

/-- A channel's ignored positions under settings in force. -/
theorem Channel.ignored_of_settings {c : Channel} {st : Settings} (h : c.setup.settings = some st) (scope : Scope) :
    c.ignored scope = match scope with
      | .exact => 0
      | .spanA => st.maskA
      | .spanB => st.maskB := by
  cases scope <;> simp only [Channel.ignored, h]

theorem Repair.isRemap_of_remap {r : Repair} {reserve : Nat} (h : r.kind = .remap reserve) : r.isRemap = true := by
  simp only [Repair.isRemap, Repair.isSubstitute, h, Bool.not_false]

theorem Repair.isRemap_of_substitute {r : Repair} {column : Column} {scope : Scope} (h : r.kind = .substitute column scope) :
    r.isRemap = false := by
  simp only [Repair.isRemap, Repair.isSubstitute, h, Bool.not_true]

/-- What bars a SUBSTITUTE record: a REMAP in its row, or a SUBSTITUTE of its scope that covers its column. -/
theorem RepairKind.bars_substitute (c : Channel) (e : Repair) (column : Column) (scope : Scope) :
    (e.kind.duplicates c (.substitute column scope) = true ∨ e.isRemap ≠ false) ↔
      (∃ reserve : Nat, e.kind = .remap reserve) ∨ ∃ base : Column, e.kind = .substitute base scope
        ∧ ∀ n : Nat, n < c.geometry.c → (c.ignored scope).getLsbD n = false → base.getLsbD n = column.getLsbD n := by
  cases he : e.kind with
  | remap reserve => simp [Repair.isRemap_of_remap he]
  | substitute base other =>
    simp only [RepairKind.duplicates, Repair.isRemap_of_substitute he, Bool.and_eq_true, beq_iff_eq, columnMatches_iff, ne_eq,
      not_true_eq_false, or_false, reduceCtorEq, exists_false, false_or, RepairKind.substitute.injEq]
    constructor
    · rintro ⟨rfl, h⟩
      exact ⟨base, ⟨rfl, rfl⟩, h⟩
    · rintro ⟨_, ⟨rfl, rfl⟩, h⟩
      exact ⟨rfl, h⟩

/-- Any entry of its row bars a REMAP record. -/
theorem RepairKind.bars_remap (c : Channel) (e : Repair) (reserve : Nat) :
    e.kind.duplicates c (.remap reserve) = true ∨ e.isRemap ≠ true := by
  cases he : e.kind with
  | remap n => exact .inl rfl
  | substitute column scope => exact .inr (by simp [Repair.isRemap_of_substitute he])

theorem State.loadCarried_takesCarried (resumes : Chan → Bool) (s : State) (k : CarriedRecord) :
    s.TakesCarried resumes k (State.loadCarried resumes s k) := by
  unfold State.TakesCarried
  intro ch c bank row column dropped inRow full lowest created
  refine ⟨fun h => if_pos h, fun hr h => ?_, fun st hr hen hcode hst => ?_⟩
  · refine s.loadCarried_barred k resumes hr (s.barsCarried_of_not_tested k ?_)
    rcases h with h | h
    · have h : s.chan[k.channel.val].setup.enabled = false := h
      rw [Channel.toBeTested, h]
      rfl
    · have h : s.chan[k.channel.val].setup.code ≠ .none := h
      simp [Channel.toBeTested, h]
  · intro g placed
    have hen : s.chan[k.channel.val].setup.enabled = true := hen
    have hcode : s.chan[k.channel.val].setup.code = .none := hcode
    have hst : s.chan[k.channel.val].setup.settings = some st := hst
    have htest : s.chan[k.channel.val].toBeTested = true := by simp [Channel.toBeTested, hen, hcode]
    have hgeo : s.chan[k.channel.val].geometry = g := by simp only [Channel.geometry, hst, g]
    have hrange : k.inRange s.chan[k.channel.val].geometry = true ↔
        placed ∧ (k.kind = 0 ∧ k.column < 2 ^ g.c ∧ k.last < 3 ∨ k.kind = 1 ∧ k.last < g.q) := by
      rw [hgeo, CarriedRecord.inRange_iff]
    have out (h : ¬ (placed ∧ (k.kind = 0 ∧ k.column < 2 ^ g.c ∧ k.last < 3 ∨ k.kind = 1 ∧ k.last < g.q))) :
        State.loadCarried resumes s k = dropped :=
      s.loadCarried_barred k resumes hr (s.barsCarried_of_not_inRange k (Bool.eq_false_iff.2 fun hin => h (hrange.1 hin)))
    refine ⟨fun h => out ?_, fun hk h => out ?_, fun hk h => out ?_, fun scope hk hp hcol hscope => ?_, fun hk hp hlast => ?_⟩
    · rintro ⟨hp, hkind⟩
      rcases h with h | h
      · exact h hp
      · omega
    · omega
    · omega
    · intro mask barred
      have hkind := CarriedRecord.repair_substitute hk hscope
      have hlast : k.last < 3 := by
        by_contra hge
        rw [List.getElem?_eq_none (by simp; omega)] at hscope
        exact nomatch hscope
      have hmask : s.chan[k.channel.val].ignored scope = mask := Channel.ignored_of_settings hst scope
      have hbars : s.barsCarried k = true ↔ barred := by
        have hremap : k.repair.isRemap = false := Repair.isRemap_of_substitute hkind
        rw [s.barsCarried_eq k htest (hrange.2 ⟨hp, .inl ⟨hk, hcol, hlast⟩⟩), hkind, hremap,
          or_iff_left (by rintro ⟨_, h, -⟩; exact nomatch h)]
        simp only [RepairKind.bars_substitute, hmask, hgeo]
        exact Iff.rfl
      refine ⟨fun h => ?_, fun i hno hi => ?_⟩
      · rcases h with h | h
        · exact s.loadCarried_barred k resumes hr (hbars.2 h)
        · exact s.loadCarried_full k resumes hr h
      · rw [s.loadCarried_created k resumes hr (Bool.eq_false_iff.2 fun h => hno (hbars.1 h))
          (s.create_substitute k.repair _ scope hkind i hi.1 hi.2), State.holdReserve, hkind]
        show ((s.setEntry i (.tentative { k.repair with
          kind := .substitute (column &&& ~~~(s.chan[k.channel.val].ignored scope)) scope })).setLine i zeroLine) = _
        rw [hmask]
        rfl
    · intro barred
      have hkind := CarriedRecord.repair_remap hk
      have hbars : s.barsCarried k = true ↔ barred := by
        have hremap : k.repair.isRemap = true := Repair.isRemap_of_remap hkind
        rw [s.barsCarried_eq k htest (hrange.2 ⟨hp, .inr ⟨hk, hlast⟩⟩), hkind, hremap]
        refine or_congr (exists_congr fun e => and_iff_left (RepairKind.bars_remap _ e k.last)) ?_
        constructor
        · rintro ⟨_, ⟨rfl⟩, h⟩
          exact h
        · exact fun h => ⟨_, rfl, h⟩
      refine ⟨fun h => ?_, fun i hno hi => ?_⟩
      · rcases h with h | h
        · exact s.loadCarried_barred k resumes hr (hbars.2 h)
        · exact s.loadCarried_full k resumes hr h
      · rw [s.loadCarried_created k resumes hr (Bool.eq_false_iff.2 fun h => hno (hbars.1 h))
          (s.create_remap k.repair _ hkind i hi.1 hi.2), State.holdReserve, hkind]
        show ((s.setEntry i (.tentative k.repair)).setReserveRow k.channel bank k.last .inUse) = _
        rw [CarriedRecord.repair, if_pos hk]
        rfl

end Sys2Proof.Machine

/-! PROOFS. The placement of the channels after a GOOD load (R19, R82, R147 to R149): O7, third part. -/

namespace Sys2Proof.Machine

/-! ### The engine's first element -/

/-- What a channel keeps as its engine takes elements in the RAW phase. -/
structure Channel.GoesOn (c d : Channel) : Prop where
  setup : d.setup = c.setup
  path : d.path = c.path
  result : d.result = c.result
  reserve : d.allocation.reserve = c.allocation.reserve
  phase : d.engine.phase = c.engine.phase
  control : d.control = { c.control with state := d.control.state }
  state : d.control.state = c.control.state ∨ c.control.state = .testing ∧ d.control.state = .analysing

theorem Channel.GoesOn.refl (c : Channel) : c.GoesOn c := ⟨rfl, rfl, rfl, rfl, rfl, rfl, .inl rfl⟩

theorem Channel.GoesOn.trans {c d e : Channel} (h : c.GoesOn d) (h' : d.GoesOn e) : c.GoesOn e where
  setup := h'.setup.trans h.setup
  path := h'.path.trans h.path
  result := h'.result.trans h.result
  reserve := h'.reserve.trans h.reserve
  phase := h'.phase.trans h.phase
  control := by rw [h'.control, h.control]
  state := by
    rcases h.state with e | ⟨ht, ha⟩
    · exact e ▸ h'.state
    · rcases h'.state with e' | ⟨ht', -⟩
      · exact .inr ⟨ht, e'.trans ha⟩
      · exact nomatch ha.symm.trans ht'

/-- What the machine keeps as one channel's engine takes elements in the RAW phase. -/
structure State.GoesOn (s t : State) (ch : Chan) : Prop where
  own : s.chan[ch.val].GoesOn t.chan[ch.val]
  other : ∀ c : Chan, ch ≠ c → t.chan[c.val] = s.chan[c.val]
  table : t.table = s.table
  spare : t.spare = s.spare
  store : t.store = s.store
  budget : t.arbiter.budget = s.arbiter.budget
  loader : t.loader = s.loader
  reply : t.reply = s.reply
  spiOut : t.spiOut = s.spiOut
  pending : t.pending = s.pending

namespace State.GoesOn

variable {s t u : State} {ch : Chan}

theorem refl (s : State) (ch : Chan) : s.GoesOn s ch :=
  ⟨.refl _, fun _ _ => rfl, rfl, rfl, rfl, rfl, rfl, rfl, rfl, rfl⟩

theorem trans (h : s.GoesOn t ch) (h' : t.GoesOn u ch) : s.GoesOn u ch where
  own := h.own.trans h'.own
  other c hc := (h'.other c hc).trans (h.other c hc)
  table := h'.table.trans h.table
  spare := h'.spare.trans h.spare
  store := h'.store.trans h.store
  budget := h'.budget.trans h.budget
  loader := h'.loader.trans h.loader
  reply := h'.reply.trans h.reply
  spiOut := h'.spiOut.trans h.spiOut
  pending := h'.pending.trans h.pending

theorem onChan (s : State) (ch : Chan) (f : Channel → Channel) (h : s.chan[ch.val].GoesOn (f s.chan[ch.val])) :
    s.GoesOn (s.onChan ch f) ch :=
  ⟨by rwa [State.onChan_same], fun _ hc => State.onChan_other s hc f, rfl, rfl, rfl, rfl, rfl, rfl, rfl, rfl⟩

theorem onEngine (s : State) (ch : Chan) (f : Engine → Engine)
    (h : (f s.chan[ch.val].engine).phase = s.chan[ch.val].engine.phase) : s.GoesOn (s.onEngine ch f) ch := by
  rw [State.onEngine_eq]
  exact onChan s ch _ ⟨rfl, rfl, rfl, rfl, h, rfl, .inl rfl⟩

theorem setArbiter (s : State) (ch : Chan) (a : Arbiter) (h : a.budget = s.arbiter.budget) :
    s.GoesOn (s.setArbiter a) ch :=
  ⟨.refl _, fun _ _ => rfl, rfl, rfl, rfl, h, rfl, rfl, rfl, rfl⟩

theorem startSweep (s : State) (ch : Chan) : s.GoesOn (s.startSweep ch) ch := by
  unfold State.startSweep
  dsimp only
  split
  · exact onEngine s ch _ rfl
  all_goals exact refl s ch

theorem requestToken (s : State) (ch : Chan) : s.GoesOn (s.requestToken ch) ch := by
  unfold State.requestToken
  split
  · exact (setArbiter s ch (s.arbiter.grant ch) rfl).trans (startSweep _ ch)
  · exact setArbiter s ch (s.arbiter.wait ch) rfl

theorem serviceOwed (s : State) (ch : Chan) : s.GoesOn (s.serviceOwed ch) ch := by
  rw [State.serviceOwed_eq]
  exact onChan s ch _ ⟨rfl, rfl, rfl, rfl, rfl, rfl, .inl rfl⟩

theorem beginChain (s : State) (ch : Chan) (m : March) (chain : List Nat) : s.GoesOn (s.beginChain ch m chain) ch :=
  ((onEngine s ch _ rfl).trans (serviceOwed _ ch)).trans (requestToken _ ch)

/-- The drain condition in the RAW phase at most places the analysis request. -/
theorem drainTest (s : State) (ch : Chan) (h : s.chan[ch.val].engine.phase = .raw) : s.GoesOn (s.drainTest ch) ch := by
  have place : s.GoesOn (s.placeRequest ch) ch := by
    rw [State.placeRequest, State.onAllocation_eq]
    exact onChan s ch _ ⟨rfl, rfl, rfl, rfl, rfl, rfl, .inl rfl⟩
  unfold State.drainTest
  dsimp only [Fin.getElem_fin]
  rw [h]
  split
  · split
    · exact place
    · exact place
    all_goals exact refl s ch
  · exact refl s ch

theorem enterDrain (s : State) (ch : Chan) (takenIn : List ChannelState) (h : s.chan[ch.val].engine.phase = .raw)
    (ht : s.chan[ch.val].control.state = .testing) : s.GoesOn (s.enterDrain ch takenIn) ch := by
  rw [State.enterDrain_eq]
  refine (onChan s ch _ ⟨rfl, rfl, rfl, rfl, rfl, rfl, ?_⟩).trans (drainTest _ ch (by rw [State.onChan_same]; exact h))
  dsimp only
  split
  · exact .inr ⟨ht, rfl⟩
  · exact .inl rfl

/-- Taking an element, through REPEATs, in the RAW phase of a channel in TESTING. -/
theorem takeElement (ch : Chan) (fuel : Nat) (s : State) (h : s.chan[ch.val].engine.phase = .raw)
    (ht : s.chan[ch.val].control.state = .testing) : s.GoesOn (State.takeElement ch fuel s) ch := by
  induction fuel generalizing s with
  | zero => exact refl s ch
  | succ fuel ih =>
    have go (f : Engine → Engine) (hf : (f s.chan[ch.val].engine).phase = s.chan[ch.val].engine.phase) :
        s.GoesOn (State.takeElement ch fuel (s.onEngine ch f)) ch :=
      (onEngine s ch f hf).trans (ih _ (by rw [State.onEngine_same]; exact hf.trans h) (by rw [State.onEngine_same]; exact ht))
    unfold State.takeElement
    dsimp only
    split
    · split
      · exact beginChain s ch _ _
      · exact refl s ch
    · rw [State.enterHold_eq]
      exact onChan s ch _ ⟨rfl, rfl, rfl, rfl, rfl, rfl, .inl rfl⟩
    · split
      · exact go _ rfl
      · split <;> exact go _ rfl
    · exact enterDrain s ch _ h ht
    · exact enterDrain s ch _ h ht
    · exact refl s ch
    · exact refl s ch

theorem takeElementAt (s : State) (ch : Chan) (i : Nat) (h : s.chan[ch.val].engine.phase = .raw)
    (ht : s.chan[ch.val].control.state = .testing) : s.GoesOn (s.takeElementAt ch i) ch :=
  (onEngine s ch _ rfl).trans (takeElement ch _ _ (by rw [State.onEngine_same]; exact h) (by rw [State.onEngine_same]; exact ht))

end State.GoesOn

/-! ### One channel's placement (Table 9.2) -/

/-- The parts of a channel that its placement decides. -/
structure ChannelHeld where
  setup : ChannelSetup
  control : Control
  path : Path
  pins : Pins
  result : CopiedResult
  reserve : List (List ReserveState)

def Channel.held (c : Channel) : ChannelHeld :=
  { setup := c.setup, control := c.control, path := c.path, pins := c.pins, result := c.result,
    reserve := c.allocation.reserve }

/-- A channel that starts its run as it is placed. -/
structure ChannelHeld.Begins (c d : ChannelHeld) : Prop where
  setup : d.setup = c.setup
  path : d.path = c.path
  result : d.result = c.result
  reserve : d.reserve = c.reserve.map fun bank => bank.map ReserveState.restart
  control : d.control = { c.control with
    state := d.control.state, outcome := .none, runCount := Counter.inc c.control.runCount }
  state : d.control.state = .testing ∨ d.control.state = .analysing

/-- A channel as it is placed. -/
structure ChannelHeld.Placed (resumes : Bool) (c d : ChannelHeld) : Prop where
  resuming : resumes = true → d = { c with
    path := { c.path with tracker := allClosed }
    control := { c.control with
      state := .service, candidate := false, resumedCount := Counter.inc c.control.resumedCount } }
  untested : resumes = false → c.setup.code ≠ .none → d = { c with
    path := { c.path with tracker := allClosed }
    control := { c.control with state := .service, outcome := .untested } }
  begun : resumes = false → c.setup.code = .none → c.setup.enabled = true → c.Begins d
  disabled : resumes = false → c.setup.code = .none → c.setup.enabled = false →
    d = { c with control := { c.control with state := .disabled, outcome := .none } }

theorem ChannelHeld.Placed.setup {resumes : Bool} {c d : ChannelHeld} (h : ChannelHeld.Placed resumes c d) :
    d.setup = c.setup := by
  cases hr : resumes with
  | true => rw [h.resuming hr]
  | false =>
    by_cases hc : c.setup.code = .none
    · cases he : c.setup.enabled with
      | true => exact (h.begun hr hc he).setup
      | false => rw [h.disabled hr hc he]
    · rw [h.untested hr hc]

/-- The entry of a lent pattern line may take the place of a FREE one; no other entry changes. -/
def State.Lent (s t : State) : Prop :=
  ∀ i : Fin 64, t.table[i.val] = s.table[i.val] ∧ t.spare[i.val] = s.spare[i.val]
    ∨ s.table[i.val] = .free ∧ ∃ p : Fin 8, i = patternEntry p ∧ t.table[i.val] = .lent p

theorem State.Lent.of_same {s t : State} (ht : t.table = s.table) (hs : t.spare = s.spare) : s.Lent t :=
  fun _ => .inl ⟨by rw [ht], by rw [hs]⟩

theorem State.Lent.trans {s t u : State} (h : s.Lent t) (h' : t.Lent u) : s.Lent u := by
  intro i
  rcases h i with ⟨ht, hs⟩ | ⟨hfree, p, hp, hlent⟩
  · rcases h' i with ⟨ht', hs'⟩ | ⟨hfree, hp⟩
    · exact .inl ⟨ht'.trans ht, hs'.trans hs⟩
    · exact .inr ⟨ht ▸ hfree, hp⟩
  · rcases h' i with ⟨ht', -⟩ | ⟨hfree', -⟩
    · exact .inr ⟨hfree, p, hp, ht'.trans hlent⟩
    · exact nomatch hlent.symm.trans hfree'

/-- Every valid entry of a channel that does not resume is a carried one. -/
def State.OnlyCarried (s : State) (resumes : Chan → Bool) : Prop :=
  ∀ (i : Fin 64) (r : Repair), s.table[i.val].repair? = some r → resumes r.channel = false →
    s.table[i.val] = .tentative r ∧ r.origin = .carried

theorem State.OnlyCarried.lent {s t : State} {resumes : Chan → Bool} (hs : s.OnlyCarried resumes) (h : s.Lent t) :
    t.OnlyCarried resumes := by
  intro i r hr hres
  rcases h i with ⟨ht, -⟩ | ⟨-, p, -, hlent⟩
  · rw [ht] at hr ⊢
    exact hs i r hr hres
  · rw [hlent] at hr
    exact nomatch hr

/-- Carried entries stand as they are when their channel is reopened. -/
theorem State.OnlyCarried.reopen {s : State} {resumes : Chan → Bool} (hs : s.OnlyCarried resumes) {ch : Chan}
    (hr : resumes ch = false) (i : Fin 64) : s.table[i.val].reopen ch = s.table[i.val] := by
  unfold Entry.reopen
  cases he : s.table[i.val].repair? with
  | none => rfl
  | some r =>
    dsimp only
    split
    · rename_i hc
      obtain ⟨ht, ho⟩ := hs i r he (hc ▸ hr)
      rw [ht, ← ho]
    · rfl

/-- What placing one channel leaves of the machine. -/
structure State.Places (s t : State) (resumes : Chan → Bool) (ch : Chan) : Prop where
  own : ChannelHeld.Placed (resumes ch) s.chan[ch.val].held t.chan[ch.val].held
  other : ∀ c : Chan, ch ≠ c → t.chan[c.val].held = s.chan[c.val].held
  lent : s.Lent t
  store : t.store = s.store
  budget : t.arbiter.budget = s.arbiter.budget
  loader : t.loader = s.loader
  reply : t.reply = s.reply
  spiOut : t.spiOut = s.spiOut
  pending : t.pending = s.pending

theorem State.choose_held (s : State) (c : Chan) : s.choose.chan[c.val].held = s.chan[c.val].held := by
  obtain ⟨records, request, state, e⟩ := s.choose_chan c
  rw [e]
  rfl

theorem State.place_of_own {s : State} {resumes : Chan → Bool} {ch : Chan} {t : State}
    (own : ChannelHeld.Placed (resumes ch) s.chan[ch.val].held t.chan[ch.val].held)
    (other : ∀ c : Chan, ch ≠ c → t.chan[c.val] = s.chan[c.val]) (rest : s.SameRest t) (ht : t.table = s.table)
    (hs : t.spare = s.spare) : s.Places t resumes ch where
  own := own
  other c hc := by rw [other c hc]
  lent := .of_same ht hs
  store := rest.store
  budget := by rw [rest.arbiter]
  loader := rest.loader
  reply := rest.reply
  spiOut := rest.spiOut
  pending := rest.pending

theorem State.place_places (resumes : Chan → Bool) (s : State) (ch : Chan) (hc : s.OnlyCarried resumes)
    (hreturns : s.chan[ch.val].path.returns = []) : s.Places (State.place resumes s ch) resumes ch := by
  unfold State.place
  dsimp only [Fin.getElem_fin]
  by_cases hr : resumes ch = true
  · rw [if_pos hr]
    refine State.place_of_own ⟨fun _ => ?_, fun h => ?_, fun h => ?_, fun h => ?_⟩ (fun c h => ?_) ⟨rfl, rfl, rfl, rfl, rfl, rfl, rfl⟩
      rfl rfl
    · rw [State.onControl_same, State.enterService_chan, if_pos rfl]
      rfl
    · exact nomatch hr.symm.trans h
    · exact nomatch hr.symm.trans h
    · exact nomatch hr.symm.trans h
    · rw [State.onControl_other _ h, State.enterService_chan, if_neg h]
  · rw [if_neg hr]
    have hr : resumes ch = false := Bool.eq_false_iff.2 hr
    by_cases hu : s.chan[ch.val].untested = true
    · have hcode : s.chan[ch.val].held.setup.code ≠ .none := by
        change s.chan[ch.val].setup.code ≠ .none
        simpa [Channel.untested] using hu
      rw [if_pos hu]
      refine State.place_of_own ⟨fun h => ?_, fun _ _ => ?_, fun _ h => absurd h hcode, fun _ h => absurd h hcode⟩ (fun c h => ?_)
        (State.enterService_rest s ch _) rfl rfl
      · exact nomatch hr.symm.trans h
      · rw [State.enterService_chan, if_pos rfl]
        rfl
      · rw [State.enterService_chan, if_neg h]
    · have hcode : s.chan[ch.val].held.setup.code = .none := by
        change s.chan[ch.val].setup.code = .none
        simpa [Channel.untested] using hu
      rw [if_neg hu]
      by_cases hen : s.chan[ch.val].setup.enabled = true
      · rw [if_pos hen]
        generalize hp : (s.onControl ch fun k => { k with state := .preparing, outcome := .none }) = p
        have hpown : p.chan[ch.val] = { s.chan[ch.val] with
            control := { s.chan[ch.val].control with state := .preparing, outcome := .none } } := by
          rw [← hp, State.onControl_same]
        have hpother (c : Chan) (h : ch ≠ c) : p.chan[c.val] = s.chan[c.val] := by
          rw [← hp, State.onControl_other _ h]
        have hprest : s.SameRest p := hp ▸ ⟨rfl, rfl, rfl, rfl, rfl, rfl, rfl⟩
        have hptable : p.table = s.table := by rw [← hp]; rfl
        have hpspare : p.spare = s.spare := by rw [← hp]; rfl
        have hpcarried : p.OnlyCarried resumes := hc.lent (.of_same hptable hpspare)
        rw [p.prepareIfReady_eq ch (by rw [hpown]) (by rw [hpown]; exact hreturns)]
        obtain ⟨e, hprep, heq⟩ := p.prepare_eq ch
        have hsame := hprep.same
        have hgoes := State.GoesOn.takeElementAt e ch p.chan[ch.val].programStart (by rw [hsame]; rfl) (by rw [hsame]; rfl)
        rw [heq]
        generalize e.takeElementAt ch p.chan[ch.val].programStart = t at hgoes
        obtain ⟨-, hchspare, hchstore, hcharbiter, hchloader, hchreply, hchspi, hchpending⟩ := t.choose_frame
        refine { own := ⟨fun h => ?_, fun _ h => absurd hcode h, fun _ _ _ => ?_, fun _ _ h => ?_⟩, other := fun c h => ?_
                 lent := ?_, store := ?_, budget := ?_, loader := ?_, reply := ?_, spiOut := ?_, pending := ?_ }
        · exact nomatch hr.symm.trans h
        · rw [State.choose_held]
          have hown := hgoes.own
          rw [hsame, hpown] at hown
          refine ⟨hown.setup, hown.path, hown.result, hown.reserve, hown.control, ?_⟩
          rcases hown.state with h | ⟨-, h⟩
          · exact .inl h
          · exact .inr h
        · exact nomatch hen.symm.trans h
        · rw [State.choose_held, hgoes.other c h, hprep.other c h, hpother c h]
        · refine State.Lent.trans (t := e) (fun i => ?_) (.of_same (t.choose_table.trans hgoes.table) (hchspare.trans hgoes.spare))
          rcases hprep.entry i with ⟨ht, hs⟩ | ⟨q, -, hi, hfree, hlent⟩
          · exact .inl ⟨by rw [ht, hpcarried.reopen hr, hptable], by rw [hs, hpspare]⟩
          · exact .inr ⟨by rwa [hptable] at hfree, q, hi, hlent⟩
        · rw [hchstore, hgoes.store, hprep.rest.store, hprest.store]
        · rw [hcharbiter, hgoes.budget, hprep.rest.arbiter, hprest.arbiter]
        · rw [hchloader, hgoes.loader, hprep.rest.loader, hprest.loader]
        · rw [hchreply, hgoes.reply, hprep.rest.reply, hprest.reply]
        · rw [hchspi, hgoes.spiOut, hprep.rest.spiOut, hprest.spiOut]
        · rw [hchpending, hgoes.pending, hprep.rest.pending, hprest.pending]
      · rw [if_neg hen]
        refine State.place_of_own ⟨fun h => ?_, fun _ h => absurd hcode h, fun _ _ h => absurd h hen, fun _ _ _ => ?_⟩
          (fun c h => ?_) ⟨rfl, rfl, rfl, rfl, rfl, rfl, rfl⟩ rfl rfl
        · exact nomatch hr.symm.trans h
        · rw [State.onControl_same]
          rfl
        · rw [State.onControl_other _ h]

/-! ### All four channels -/

/-- What placing some channels, one after another, leaves of the machine. -/
structure State.PlacesAll (s t : State) (resumes : Chan → Bool) (l : List Chan) : Prop where
  own : ∀ c ∈ l, ChannelHeld.Placed (resumes c) s.chan[c.val].held t.chan[c.val].held
  other : ∀ c : Chan, c ∉ l → t.chan[c.val].held = s.chan[c.val].held
  lent : s.Lent t
  store : t.store = s.store
  budget : t.arbiter.budget = s.arbiter.budget
  loader : t.loader = s.loader
  reply : t.reply = s.reply
  spiOut : t.spiOut = s.spiOut
  pending : t.pending = s.pending

theorem State.foldl_place_placesAll (resumes : Chan → Bool) (l : List Chan) (hl : l.Nodup) (s : State)
    (hc : s.OnlyCarried resumes) (hreturns : ∀ c : Chan, s.chan[c.val].path.returns = []) :
    s.PlacesAll (l.foldl (State.place resumes) s) resumes l := by
  induction l generalizing s with
  | nil => exact ⟨nofun, fun _ _ => rfl, .of_same rfl rfl, rfl, rfl, rfl, rfl, rfl, rfl⟩
  | cons ch l ih =>
    obtain ⟨hnot, hnodup⟩ := List.nodup_cons.1 hl
    have first := State.place_places resumes s ch hc (hreturns ch)
    have hheld (c : Chan) (h : ch ≠ c) := first.other c h
    have hreturns' (c : Chan) : (State.place resumes s ch).chan[c.val].path.returns = [] := by
      show (State.place resumes s ch).chan[c.val].held.path.returns = []
      by_cases h : ch = c
      · subst h
        have own := first.own
        cases hr : resumes ch with
        | true => rw [own.resuming hr]; exact hreturns ch
        | false =>
          by_cases hcode : s.chan[ch.val].held.setup.code = .none
          · cases hen : s.chan[ch.val].held.setup.enabled with
            | true => rw [(own.begun hr hcode hen).path]; exact hreturns ch
            | false => rw [own.disabled hr hcode hen]; exact hreturns ch
          · rw [own.untested hr hcode]; exact hreturns ch
      · rw [hheld c h]; exact hreturns c
    have rest := ih hnodup (State.place resumes s ch) (hc.lent first.lent) hreturns'
    refine { own := fun c hm => ?_, other := fun c hm => ?_, lent := first.lent.trans rest.lent
             store := rest.store.trans first.store, budget := rest.budget.trans first.budget
             loader := rest.loader.trans first.loader, reply := rest.reply.trans first.reply
             spiOut := rest.spiOut.trans first.spiOut, pending := rest.pending.trans first.pending }
    · rcases List.mem_cons.1 hm with rfl | hm
      · rw [List.foldl_cons, rest.other c hnot]
        exact first.own
      · have hne : ch ≠ c := fun e => hnot (e ▸ hm)
        have own := rest.own c hm
        rwa [hheld c hne] at own
    · obtain ⟨hne, hm⟩ := not_or.1 (List.mem_cons.not.1 hm)
      rw [List.foldl_cons, rest.other c hm, hheld c (Ne.symm hne)]

end Sys2Proof.Machine

/-! PROOFS. The load of a GOOD image as a whole (R147, R148, R160 to R167): O7. -/

namespace Sys2Proof.Machine

/-! ### A channel's setup and its resumption (R163, R165) -/

section

variable (image : List Byte) (ch : Chan)

theorem setupOf_code : (setupOf image (storeOf image) ch).code =
    if (byteAt image 3).testBit ch.val = false then SettingsError.none
    else if (recordedGeometry image ch).inRange = false then .geometry
    else if 63 < recordedStart image ch then .programStart
    else match validate (storeOf image) (recordedStart image ch) with
      | .error reason => reason
      | .ok _ => .none := by
  show (if enabledIn image ch then enabledCode image (storeOf image) ch else .none) = _
  rw [enabledIn, enabledCode]
  cases (byteAt image 3).testBit ch.val with
  | false => rfl
  | true =>
    cases (recordedGeometry image ch).inRange with
    | false => rfl
    | true => rfl

theorem setupOf_plan : (setupOf image (storeOf image) ch).plan =
    match validate (storeOf image) (recordedStart image ch) with
    | .ok finish => if (byteAt image 3).testBit ch.val = true ∧ (setupOf image (storeOf image) ch).code = .none
        then some (buildPlan (storeOf image) (recordedStart image ch) finish) else none
    | .error _ => none := by
  show (if enabledIn image ch = true ∧ (setupOf image (storeOf image) ch).code = .none
    then planOf image (storeOf image) ch else none) = _
  rw [planOf, enabledIn]
  cases validate (storeOf image) (recordedStart image ch) with
  | ok finish => rfl
  | error reason => exact ite_self none

theorem toBeTested_iff (c : Channel) : c.toBeTested = true ↔ c.setup.enabled = true ∧ c.setup.code = .none := by
  rw [Channel.toBeTested, Bool.and_eq_true, beq_iff_eq]

theorem State.resumes_iff (s : State) : (s.applyImage image).resumes image ch = true ↔
    s.chan[ch.val].control.candidate = true ∧ byteAt image 6 = 1 ∧ s.loader.previousCheck = some (checkValue image)
      ∧ (byteAt image 3).testBit ch.val = true ∧ (setupOf image (storeOf image) ch).code = .none := by
  have hloader : (s.applyImage image).loader.previousCheck = s.loader.previousCheck := by
    rw [State.applyImage_loader]
  have hpolicy : policyOf image = .keep ↔ byteAt image 6 = 1 := by
    rw [policyOf]
    split_ifs with h
    · exact iff_of_true rfl h
    · exact iff_of_false nofun h
  simp only [State.resumes, Bool.and_eq_true, beq_iff_eq, toBeTested_iff, hloader, hpolicy, Fin.getElem_fin,
    State.applyImage_chan, and_assoc]
  exact Iff.rfl

end

/-! ### The entries before the placement -/

section

variable {s t : State} {image : List Byte} {resumes : Chan → Bool}

/-- A valid entry of a channel that does not resume is a carried one, of a channel to be tested. -/
theorem State.Loads.fresh_entry (h : s.Loads image resumes t) {i : Fin 64} {r : Repair}
    (hr : t.table[i.val].repair? = some r) (hres : resumes r.channel = false) :
    t.table[i.val] = .tentative r ∧ r.origin = .carried ∧ t.chan[r.channel.val].toBeTested = true := by
  rcases h.entry i with ⟨ht, -⟩ | ⟨-, q, ht, -, htest, ho⟩
  · rcases Entry.without_cases (fun c => !resumes c) s.table[i.val] with ⟨e, hkept⟩ | ⟨e, -⟩
    · rw [ht, e] at hr
      have := hkept r hr
      simp [hres] at this
    · rw [ht, e] at hr
      exact nomatch hr
  · rw [ht] at hr ⊢
    obtain rfl : q = r := Option.some.inj hr
    exact ⟨rfl, ho, htest⟩

theorem State.Loads.onlyCarried (h : s.Loads image resumes t) : t.OnlyCarried resumes := fun i r hr hres => by
  obtain ⟨ht, ho, -⟩ := h.fresh_entry hr hres
  exact ⟨ht, ho⟩

/-- The entries and spare words of a channel that resumes stand. -/
theorem State.Loads.resuming_entry (h : s.Loads image resumes t) {ch : Chan} (hres : resumes ch = true) (i : Fin 64)
    (hb : s.table[i.val].belongsTo ch = true ∨ t.table[i.val].belongsTo ch = true) :
    t.table[i.val] = s.table[i.val] ∧ t.spare[i.val] = s.spare[i.val] ∧ t.table[i.val] ≠ .free := by
  have kept : ∀ e : Entry, e.belongsTo ch = true → ∃ r : Repair, e.repair? = some r ∧ r.channel = ch := by
    intro e he
    unfold Entry.belongsTo at he
    cases hr : e.repair? with
    | some r => exact ⟨r, rfl, by simpa [hr] using he⟩
    | none => simp [hr] at he
  rcases h.entry i with ⟨ht, hspare⟩ | ⟨hfree, q, ht, hq, -⟩
  · rcases Entry.without_cases (fun c => !resumes c) s.table[i.val] with ⟨e, -⟩ | ⟨e, r, hr, hgone⟩
    · rw [e] at ht
      refine ⟨ht, hspare, fun hfree => ?_⟩
      rw [← ht, or_self, hfree] at hb
      exact nomatch hb
    · exfalso
      rcases hb with hb | hb
      · obtain ⟨r', hr', hc⟩ := kept _ hb
        obtain rfl : r = r' := Option.some.inj (hr.symm.trans hr')
        simp [hc, hres] at hgone
      · rw [ht, e] at hb
        exact nomatch hb
  · exfalso
    rcases hb with hb | hb
    · obtain ⟨r, hr, hc⟩ := kept _ hb
      rcases Entry.without_cases (fun c => !resumes c) s.table[i.val] with ⟨e, -⟩ | ⟨-, r', hr', hgone⟩
      · rw [← e, hfree] at hr
        exact nomatch hr
      · obtain rfl : r = r' := Option.some.inj (hr.symm.trans hr')
        simp [hc, hres] at hgone
    · rw [ht] at hb
      obtain ⟨r, hr, hc⟩ := kept _ hb
      obtain rfl : q = r := Option.some.inj hr
      exact nomatch (hc ▸ hq).symm.trans hres

end

/-! ### The Reserve Row Lists before the placement (R134, R166) -/

/-- Every reserve row of a channel that does not resume is UNTESTED or IN_USE. -/
def State.RowsRestarted (s : State) (resumes : Chan → Bool) : Prop :=
  ∀ c : Chan, resumes c = false → ∀ bank ∈ s.chan[c.val].allocation.reserve, ∀ st ∈ bank, ReserveState.restart st = st

theorem setReserve_inUse_restart {lists : List (List ReserveState)} (bank : Bank) (n : Nat)
    (h : ∀ l ∈ lists, ∀ st ∈ l, ReserveState.restart st = st) :
    ∀ l ∈ setReserve lists bank n .inUse, ∀ st ∈ l, ReserveState.restart st = st := by
  intro l hl st hst
  rcases List.mem_or_eq_of_mem_set hl with hl | rfl
  · exact h l hl st hst
  · rcases List.mem_or_eq_of_mem_set hst with hst | rfl
    · by_cases hb : bank.toNat < lists.length
      · rw [List.getD_eq_getElem _ _ hb] at hst
        exact h _ (List.getElem_mem hb) st hst
      · rw [List.getD_eq_default _ _ (by omega)] at hst
        exact nomatch hst
    · rfl

theorem map_restart_eq {lists : List (List ReserveState)} (h : ∀ l ∈ lists, ∀ st ∈ l, ReserveState.restart st = st) :
    (lists.map fun bank => bank.map ReserveState.restart) = lists :=
  (List.map_congr_left fun l hl => (List.map_congr_left (h l hl)).trans l.map_id).trans lists.map_id

theorem State.RowsRestarted.loadCarried {resumes : Chan → Bool} {s : State} (k : CarriedRecord) (hs : s.RowsRestarted resumes) :
    (State.loadCarried resumes s k).RowsRestarted resumes := by
  have dropped : (s.dropCarried k.channel).RowsRestarted resumes := by
    intro c hc
    rw [State.dropCarried, State.onSetup_chan]
    split
    · rename_i e
      subst e
      exact hs _ hc
    · exact hs c hc
  unfold State.loadCarried
  split
  · exact hs
  · split
    · exact dropped
    · split
      · rename_i t ht
        have hchan : t.chan = s.chan := (State.create_frame ht).1
        have ht : t.RowsRestarted resumes := by
          unfold State.RowsRestarted
          rw [hchan]
          exact hs
        unfold State.holdReserve
        split
        · intro c hc
          rw [State.setReserveRow, State.onAllocation_chan]
          split
          · rename_i e
            subst e
            exact setReserve_inUse_restart _ _ (ht _ hc)
          · exact ht c hc
        · exact ht
      · exact dropped

theorem State.RowsRestarted.foldl_loadCarried {resumes : Chan → Bool} (l : List CarriedRecord) {s : State}
    (hs : s.RowsRestarted resumes) : (l.foldl (State.loadCarried resumes) s).RowsRestarted resumes := by
  induction l generalizing s with
  | nil => exact hs
  | cons k l ih => exact ih (hs.loadCarried k)

theorem State.decided_rowsRestarted (s : State) (image : List Byte) :
    (s.decided image).RowsRestarted ((s.applyImage image).resumes image) := by
  intro c hc bank hbank st hst
  rw [s.decided_chan, if_neg (by simp [hc])] at hbank
  obtain ⟨-, rfl⟩ := List.mem_replicate.1 hbank
  obtain ⟨-, rfl⟩ := List.mem_replicate.1 hst
  rfl

/-- The lists of a channel that starts from nothing, from its setup. -/
theorem Channel.freshReserve_eq (c : Channel) : c.freshReserve = match c.setup.settings with
    | some st => List.replicate (2 ^ st.geometry.b)
        (List.replicate (if c.setup.code = .none then st.geometry.q else 0) .untested)
    | none => List.replicate 8 [] := by
  unfold Channel.freshReserve Channel.geometry Channel.untested
  cases c.setup.settings with
  | none => by_cases h : c.setup.code = .none <;> simp [h, fullGeometry, Geometry.banks]
  | some st => by_cases h : c.setup.code = .none <;> simp [h, Geometry.banks]

/-! ### The load -/

section

variable (s : State) (image : List Byte) (order : List Chan)

theorem State.loadGood_placesAll (hreturns : ∀ c : Chan, s.chan[c.val].path.returns = []) :
    (s.loaded image).PlacesAll (s.loadGood image order) ((s.applyImage image).resumes image) (placementOrder order) := by
  have hloads := s.loaded_loads image
  rw [State.loadGood_eq]
  refine State.foldl_place_placesAll _ _ (placementOrder_nodup order) _ hloads.onlyCarried fun c => ?_
  obtain ⟨n, X, e⟩ := hloads.chan c
  rw [e]
  exact hreturns c

theorem State.loadGood_held (hreturns : ∀ c : Chan, s.chan[c.val].path.returns = []) (c : Chan) :
    ChannelHeld.Placed ((s.applyImage image).resumes image c) (s.loaded image).chan[c.val].held
      (s.loadGood image order).chan[c.val].held :=
  (s.loadGood_placesAll image order hreturns).own c (mem_placementOrder order c)

/-- Placing a channel leaves its reserve rows as the carried records left them. -/
theorem State.loadGood_reserve (hreturns : ∀ c : Chan, s.chan[c.val].path.returns = []) (c : Chan) :
    (s.loadGood image order).chan[c.val].allocation.reserve = (s.loaded image).chan[c.val].allocation.reserve := by
  have hplaced := s.loadGood_held image order hreturns c
  show (s.loadGood image order).chan[c.val].held.reserve = (s.loaded image).chan[c.val].held.reserve
  cases hr : (s.applyImage image).resumes image c with
  | true => rw [hplaced.resuming hr]
  | false =>
    by_cases hcode : (s.loaded image).chan[c.val].held.setup.code = .none
    · cases hen : (s.loaded image).chan[c.val].held.setup.enabled with
      | true =>
        rw [(hplaced.begun hr hcode hen).reserve]
        exact map_restart_eq ((s.decided_rowsRestarted image).foldl_loadCarried (carriedOf image) c hr)
      | false => rw [hplaced.disabled hr hcode hen]
    · rw [hplaced.untested hr hcode]

theorem State.loadGood_setup (hreturns : ∀ c : Chan, s.chan[c.val].path.returns = []) (c : Chan) :
    (s.loadGood image order).chan[c.val].setup = (s.loaded image).chan[c.val].setup :=
  (s.loadGood_held image order hreturns c).setup

/-- How the state of a GOOD load comes from its carried records. -/
theorem State.loadGood_carriesOver (hreturns : ∀ c : Chan, s.chan[c.val].path.returns = []) :
    s.CarriesOver (s.decided image) (s.loadGood image order) image ((s.applyImage image).resumes image) := by
  have hloads := s.loaded_loads image
  have hplaces := s.loadGood_placesAll image order hreturns
  have hsetup := s.loadGood_setup image order hreturns
  have hreserve := s.loadGood_reserve image order hreturns
  obtain ⟨-, hspare⟩ := (s.applyImage image).decideResumption_rest ((s.applyImage image).resumes image)
  have hentry := (s.applyImage image).decideResumption_entry ((s.applyImage image).resumes image)
  have hdecided (c : Chan) : (s.decided image).chan[c.val].setup = setupOf image (storeOf image) c := by
    rw [s.decided_chan]
    split <;> rfl
  have hset (c : Chan) : setupOf image (storeOf image) c = { (s.loadGood image order).chan[c.val].setup with dropped := 0 } := by
    obtain ⟨n, X, e⟩ := hloads.chan c
    rw [hsetup, e]
    rfl
  refine ⟨hspare.trans (s.applyImage_spare image), fun i => ?_, fun c => ⟨(hdecided c).trans (hset c), ?_⟩,
    fun c => ⟨?_, ?_⟩, fun i => ?_⟩
  · refine (hentry i).trans ?_
    rw [State.applyImage_table]
    unfold Entry.without
    simp only [Fin.getElem_fin]
    cases s.table[i.val].repair? with
    | none => rfl
    | some r =>
      dsimp only
      by_cases hr : (s.applyImage image).resumes image r.channel = true
      · rw [if_pos hr, if_neg (by simp [hr])]
      · rw [if_neg hr, if_pos (by simp [hr])]
  · show (s.decided image).chan[c.val].allocation.reserve = _
    rw [s.decided_chan]
    cases (s.applyImage image).resumes image c with
    | true => rfl
    | false =>
      refine (Channel.freshReserve_eq { s.chan[c.val] with setup := setupOf image (storeOf image) c }).trans ?_
      rw [hset c]
      rfl
  · exact congrArg ChannelSetup.dropped (hsetup c)
  · exact hreserve c
  · rcases hplaces.lent i with h | ⟨hfree, p, rfl, hlent⟩
    · exact .inl h
    · exact .inr ⟨hfree, p, rfl, hlent⟩

end

end Sys2Proof.Machine

/-! PROOFS. A GOOD image is applied and the channels are placed (R147, R148, R160 to R167): O7. -/

namespace Sys2Proof.Machine

section

variable (s : State) (image : List Byte) (order : List Chan) (hreturns : ∀ c : Chan, s.chan[c.val].path.returns = [])

theorem Entry.belongsTo_iff (e : Entry) (ch : Chan) :
    e.belongsTo ch = true ↔ ∃ r : Repair, e.repair? = some r ∧ r.channel = ch := by
  unfold Entry.belongsTo
  cases e.repair? <;> simp

include hreturns

/-- The path of a channel keeps its anomaly counters and its empty list. -/
theorem State.loadGood_path (ch : Chan) :
    (s.loadGood image order).chan[ch.val].path.anomalies = s.chan[ch.val].path.anomalies
      ∧ (s.loadGood image order).chan[ch.val].path.returns = [] := by
  have hplaced := s.loadGood_held image order hreturns ch
  obtain ⟨n, X, e⟩ := (s.loaded_loads image).chan ch
  have hpath : (s.loaded image).chan[ch.val].held.path = s.chan[ch.val].path := by
    rw [e]
    rfl
  have hret := hreturns ch
  have kept : (s.loadGood image order).chan[ch.val].held.path.anomalies = (s.loaded image).chan[ch.val].held.path.anomalies
      ∧ (s.loadGood image order).chan[ch.val].held.path.returns = (s.loaded image).chan[ch.val].held.path.returns := by
    cases hr : (s.applyImage image).resumes image ch with
    | true => rw [hplaced.resuming hr]; exact ⟨rfl, rfl⟩
    | false =>
      by_cases hcode : (s.loaded image).chan[ch.val].held.setup.code = .none
      · cases hen : (s.loaded image).chan[ch.val].held.setup.enabled with
        | true => rw [(hplaced.begun hr hcode hen).path]; exact ⟨rfl, rfl⟩
        | false => rw [hplaced.disabled hr hcode hen]; exact ⟨rfl, rfl⟩
      · rw [hplaced.untested hr hcode]; exact ⟨rfl, rfl⟩
  rw [hpath, hret] at kept
  exact kept

/-- After the load, a valid entry of a channel that does not resume is a carried one, of a channel to be tested. -/
theorem State.loadGood_fresh_entry (i : Fin 64) (r : Repair)
    (hr : (s.loadGood image order).table[i.val].repair? = some r)
    (hres : (s.applyImage image).resumes image r.channel = false) :
    (s.loadGood image order).table[i.val] = .tentative r ∧ r.origin = .carried
      ∧ (setupOf image (storeOf image) r.channel).enabled = true ∧ (setupOf image (storeOf image) r.channel).code = .none := by
  rcases (s.loadGood_placesAll image order hreturns).lent i with ⟨ht, -⟩ | ⟨-, p, -, hlent⟩
  · rw [ht] at hr ⊢
    obtain ⟨he, ho, htest⟩ := (s.loaded_loads image).fresh_entry hr hres
    obtain ⟨n, X, e⟩ := (s.loaded_loads image).chan r.channel
    rw [toBeTested_iff, e] at htest
    exact ⟨he, ho, htest⟩
  · rw [hlent] at hr
    exact nomatch hr

/-- A channel that neither resumes nor is to be tested has no entry after the load. -/
theorem State.loadGood_no_entry (ch : Chan) (hres : (s.applyImage image).resumes image ch = false)
    (htest : ¬ ((setupOf image (storeOf image) ch).enabled = true ∧ (setupOf image (storeOf image) ch).code = .none))
    (i : Fin 64) : (s.loadGood image order).table[i.val].belongsTo ch = false := by
  rw [Bool.eq_false_iff, Ne, Entry.belongsTo_iff]
  rintro ⟨r, hr, rfl⟩
  obtain ⟨-, -, h⟩ := s.loadGood_fresh_entry image order hreturns i r hr hres
  exact htest h

/-- The entries of a channel that resumes are as they were. -/
theorem State.loadGood_resuming_entry (ch : Chan) (hres : (s.applyImage image).resumes image ch = true) (i : Fin 64)
    (hb : s.table[i.val].belongsTo ch = true ∨ (s.loadGood image order).table[i.val].belongsTo ch = true) :
    (s.loadGood image order).table[i.val] = s.table[i.val] ∧ (s.loadGood image order).spare[i.val] = s.spare[i.val] := by
  have hloads := s.loaded_loads image
  rcases (s.loadGood_placesAll image order hreturns).lent i with ⟨ht, hs⟩ | ⟨hfree, p, -, hlent⟩
  · rw [ht] at hb
    obtain ⟨ht', hs', -⟩ := hloads.resuming_entry hres i hb
    exact ⟨ht.trans ht', hs.trans hs'⟩
  · rw [hlent] at hb
    obtain ⟨-, -, hne⟩ := hloads.resuming_entry hres i (hb.imp_right nofun)
    exact absurd hfree hne

end

theorem budgetOf_eq (image : List Byte) :
    budgetOf image = if byteAt image 7 < 1 then 1 else if 4 < byteAt image 7 then 4 else byteAt image 7 := by
  rw [budgetOf]
  split_ifs <;> omega

/-- Settles O7. -/
theorem goodImageIsAppliedAndChannelsPlaced : Obligations.GoodImageIsAppliedAndChannelsPlaced := by
  refine ⟨fun image => ⟨fun ch => ⟨settingsOf_decoded image ch, rfl, rfl⟩, storeOf_decoded image, patternsOf_decoded image,
    carriedOf_decoded image⟩, Geometry.inRange_iff, State.loadCarried_takesCarried, fun rest order s => ?_⟩
  intro image length check hp hl hi hcrc hprograms hpatterns hcarried hlength hret
  have hstatus : wholeStatus image = .good :=
    (wholeStatus_good_iff image).2 ⟨hcrc, hprograms, hpatterns, hcarried, hlength⟩
  have hexec : exec (.imageCheck rest order) s = .next (s.quiet.loadGood image order) := by
    rw [exec_imageCheck order hp hl hi, State.checkImage, if_pos hstatus]
  have hreturns (c : Chan) : s.quiet.chan[c.val].path.returns = [] := by
    rw [State.quiet_path]
    exact hret c
  have hloads := s.quiet.loaded_loads image
  have hplaces := s.quiet.loadGood_placesAll image order hreturns
  have hcarries := s.quiet.loadGood_carriesOver image order hreturns
  refine ⟨s.quiet.loadGood image order, s.quiet.decided image, (s.quiet.applyImage image).resumes image, hexec, ?_, ?_, ?_,
    hplaces.store.trans hloads.store, hplaces.reply.trans hloads.reply, hplaces.spiOut.trans hloads.spiOut,
    hplaces.pending.trans hloads.pending, fun ch => ?_⟩
  · obtain ⟨hspare, htable, hdecided, hafter, hentries⟩ := hcarries
    refine ⟨hspare, htable, fun c => ⟨(hdecided c).1, (hdecided c).2.trans ?_⟩, hafter, hentries⟩
    simp only [Fin.getElem_fin, State.quiet_allocation]
  · exact hplaces.loader.trans hloads.loader
  · rw [hplaces.budget, hloads.arbiter]
    exact budgetOf_eq image
  · intro enabled code
    obtain ⟨n, X, hch⟩ := hloads.chan ch
    have hsetup : (s.quiet.loadGood image order).chan[ch.val].setup = { setupOf image (storeOf image) ch with dropped := n } := by
      rw [s.quiet.loadGood_setup image order hreturns ch, hch]
    have hcode : code = (setupOf image (storeOf image) ch).code := (setupOf_code image ch).symm
    have hplaced := s.quiet.loadGood_held image order hreturns ch
    rw [hch] at hplaced
    have hresumes := State.resumes_iff image ch s.quiet
    rw [State.quiet_control, ← hcode] at hresumes
    have hfresh (h : ¬ (enabled = true ∧ code = .none)) : (s.quiet.applyImage image).resumes image ch = false :=
      Bool.eq_false_iff.2 fun hres => h (hresumes.1 hres).2.2.2
    have hnone (h : ¬ (enabled = true ∧ code = .none)) :=
      s.quiet.loadGood_no_entry image order hreturns ch (hfresh h) (by rw [← hcode]; exact h)
    obtain ⟨hanomalies, hempty⟩ := s.quiet.loadGood_path image order hreturns ch
    rw [State.quiet_path] at hanomalies
    refine ⟨hresumes, ?_, ?_, ?_, ?_, hanomalies, hempty, fun hen => ⟨?_, ?_⟩, fun hc => ⟨?_, ?_⟩,
      fun hen hc hres => ?_, fun hres => ?_⟩
    · exact congrArg ChannelSetup.enabled hsetup
    · exact (congrArg ChannelSetup.code hsetup).trans hcode.symm
    · exact congrArg ChannelSetup.settings hsetup
    · have hplan := setupOf_plan image ch
      rw [← hcode] at hplan
      exact (congrArg ChannelSetup.plan hsetup).trans hplan
    · have hno : ¬ (enabled = true ∧ code = .none) := fun h => nomatch hen.symm.trans h.1
      have hc : code = .none := if_pos hen
      have e := hplaced.disabled (hfresh hno) (hcode.symm.trans hc) hen
      refine (congrArg ChannelHeld.control e).trans ?_
      simp only [Channel.held, hfresh hno]
      rfl
    · exact hnone fun h => nomatch hen.symm.trans h.1
    · have hno : ¬ (enabled = true ∧ code = .none) := fun h => hc h.2
      have e := hplaced.untested (hfresh hno) (hcode ▸ hc)
      refine (congrArg ChannelHeld.control e).trans ?_
      simp only [Channel.held, hfresh hno]
      rfl
    · exact hnone fun h => hc h.2
    · have begun := hplaced.begun hres (hcode.symm.trans hc) hen
      have control : (s.quiet.loadGood image order).chan[ch.val].control = { Control.reset with
          state := (s.quiet.loadGood image order).chan[ch.val].control.state
          outcome := .none, runCount := Counter.inc Control.reset.runCount } := by
        refine begun.control.trans ?_
        simp only [Channel.held, hres]
        rfl
      refine ⟨begun.state, congrArg Control.outcome control, (congrArg Control.runCount control).trans ?_,
        congrArg Control.resumedCount control, fun i hb => ?_⟩
      · exact (by decide : Counter.inc Control.reset.runCount = 1)
      · obtain ⟨r, hr, rfl⟩ := (Entry.belongsTo_iff _ ch).1 hb
        obtain ⟨he, ho, -⟩ := s.quiet.loadGood_fresh_entry image order hreturns i r hr hres
        exact ⟨r, he, ho⟩
    · have e := hplaced.resuming hres
      refine ⟨(congrArg ChannelHeld.control e).trans ?_, congrArg (fun h => h.path.tracker) e,
        (congrArg ChannelHeld.pins e).trans (State.quiet_pins s ch), (congrArg ChannelHeld.result e).trans ?_, ?_, fun i hb => ?_⟩
      · simp only [Channel.held, hres, State.quiet_control]
        rfl
      · simp only [Channel.held, hres, State.quiet_result]
        rfl
      · have hreserve := s.quiet.loadGood_reserve image order hreturns ch
        rw [hloads.resuming ch hres, State.quiet_allocation] at hreserve
        exact hreserve
      · exact s.quiet.loadGood_resuming_entry image order hreturns ch hres i hb

end Sys2Proof.Machine
